-- ==== Sys2Proof/Word.lean ====
section
/-!
DEFINITION. Word.lean: the word types of the block (00_scope R9, R10; 10_state R21, R28; 20_memory R41).
-/

namespace Sys2Proof

/-- One colour intensity of a pixel, and one byte of the Pixel Store (20_memory R41). -/
abbrev Byte := BitVec 8

/-- A duty code, `DUTY_W = 16` bits (00_scope R10, 10_state R28). -/
abbrev DutyCode := BitVec 16

/-- The Stream Cursor's width, `CURSOR_W = 16` bits (00_scope R10, 10_state R21). -/
abbrev CursorWord := BitVec 16

/-- The value part of a response, `rsp_val` (30_encoding R64). -/
abbrev RspValue := BitVec 32

/-- A pixel `(r, g, b)`: three unsigned 8-bit intensities, every value legal (30_encoding R70). -/
structure Pixel where
  r : Byte
  g : Byte
  b : Byte
deriving DecidableEq, Repr

end Sys2Proof
end

