-- ==== Sys2Proof/Config.lean ====
section
/-!
DEFINITION. Config.lean: the fixed constants (00_scope R7), the parameters an instance is built with
(00_scope R8 to R10, 60_exceptions R135) and the free values.
-/

namespace Sys2Proof

/-- Duty codes per frame, `FRAME_LEN` (00_scope R7). -/
def frameLen : Nat := 24

/-- Elements of the Duty Queue, `QUEUE_LEN` (00_scope R7). -/
def queueLen : Nat := 48

/-- The "off" duty code, `OFF_CODE` (00_scope R7). -/
def offCode : DutyCode := 0

/-- The latch minimum in nanoseconds, `LATCH_MIN_NS` (00_scope R7). -/
def latchMinNs : Nat := 50000

/-- How a raised progress signal reaches the block (60_exceptions R135): before the engine's next carrier
period, or when the trace says so. -/
inductive Delivery
  | prompt
  | latent
deriving DecidableEq, Repr

/-- The parameters of one instance, fixed at build time (10_state R23, R24; 00_scope R8 to R10). No event
writes them. They stand in the state so that a statement about every state is one about every instance. -/
structure Config where
  /-- `N`, the number of pixels (00_scope R10). -/
  n : Nat
  /-- `PERIOD_TICKS`, timer ticks in one carrier period (00_scope R9). -/
  periodTicks : Nat
  /-- `ZERO_CODE`, the duty code of a logical 0 (00_scope R9). -/
  zeroCode : DutyCode
  /-- `ONE_CODE`, the duty code of a logical 1 (00_scope R9). -/
  oneCode : DutyCode
  /-- `RESET_CYCLES` (00_scope R8). -/
  resetCycles : Nat
  /-- `CARRIER_PERIOD_NS`: 1250 (00_scope R7); another value is a recalibrated build (70_reset_and_hazards R188). -/
  carrierNs : Nat
  /-- `OFF_G`, the green channel's place in a frame (00_scope R10, 40_encoders R85). -/
  offG : Nat
  /-- `OFF_R`, the red channel's place in a frame. -/
  offR : Nat
  /-- `OFF_B`, the blue channel's place in a frame. -/
  offB : Nat
  /-- Delivery of progress signals (60_exceptions R135). -/
  delivery : Delivery
deriving DecidableEq, Repr

/-- The instance of the spec's own examples: `N = 3` (95_test_vectors S4) and the example calibration of
00_scope R9. DESIGN CHOICE, log 2: unsafe to read as any real device's numbers. -/
def Config.example3 : Config where
  n := 3
  periodTicks := 60
  zeroCode := 18
  oneCode := 36
  resetCycles := 2
  carrierNs := 1250
  offG := 0
  offR := 8
  offB := 16
  delivery := .prompt

/-- The level of the one output line (10_state R33). -/
inductive Level
  | high
  | low
deriving DecidableEq, Repr, Inhabited

/-- FREE VALUE (log 9): a duty code the spec leaves unspecified (10_state R34, 70_reset_and_hazards R180). -/
opaque Config.freeCode : Nat → DutyCode

/-- FREE VALUE (log 9): a cursor the spec leaves unspecified (10_state R34). -/
opaque Config.freeCursor : Nat → CursorWord

/-- FREE VALUE (log 9): a line level the spec leaves unspecified (60_exceptions R151, R155). -/
opaque Config.freeLevel : Nat → Level

end Sys2Proof
end

