-- ==== Sys2Proof/Machine/State.lean ====
section
/-!
DEFINITION. Machine/State.lean: the state as plain data (10_state R20 to R35), the reasons a step can stop, and
the state after reset (10_state R34).
-/

namespace Sys2Proof.Machine

/-- The Lifecycle State register (10_state R20). The encoding `0b11` has no name here (10_state R35). -/
inductive Lifecycle
  | idle
  | active
  | resetting
deriving DecidableEq, Repr

/-- A frame slot of the Duty Queue (00_scope section 5): `Q[0..23]` or `Q[24..47]`. -/
inductive Slot
  | slot0
  | slot1
deriving DecidableEq, Repr

/-- A command on the transfer-control port (30_encoding R66). -/
inductive XferCmd
  | none
  | startCircular
  | stopAfterHalf
  | stopNow
deriving DecidableEq, Repr

/-- A result code (30_encoding R64). -/
inductive ResultCode
  | ok
  | busy
  | notRunning
deriving DecidableEq, Repr

/-- A response `(rsp_code, rsp_val)` (30_encoding R64). -/
structure Response where
  code : ResultCode
  val : RspValue
deriving DecidableEq, Repr

/-- A progress kind (30_encoding R65); `k` is the ignored low bit of an unrecognised one. -/
inductive ProgressKind
  | half
  | full
  | unrec (k : BitVec 1)
deriving DecidableEq, Repr

/-- A progress signal raised and not yet delivered. `raisedAt` is the model's (log 20): the carrier periods run when it
was raised, from which the delay of 70_reset_and_hazards R181 is counted. -/
structure Pending where
  kind : ProgressKind
  raisedAt : Nat
deriving DecidableEq, Repr

/-- `xe_mode`, the transfer engine's mode (10_state R33). -/
inductive XeMode
  | stopped
  | running
  | stopPending
deriving DecidableEq, Repr

/-- A hazard the model records and the hardware does not detect (70_reset_and_hazards section 3). -/
inductive Hazard
  /-- The waveform of the current cycle is corrupt (70_reset_and_hazards R180). -/
  | tornWrite
  /-- A new frame followed the previous data with less than `LATCH_MIN_NS` of low (60_exceptions R152). -/
  | shortLatch
deriving DecidableEq, Repr

/-- What the environment does on its own, besides presenting words on the block's ports. -/
inductive EnvAction
  /-- Hardware reset (70_reset_and_hazards R170). -/
  | reset
  /-- A host write of one pixel (20_memory R40, R57). -/
  | pixWrite (i : Nat) (p : Pixel)
  /-- One carrier period (60_exceptions R148). -/
  | tick
  /-- The line is held low for so many carrier periods while the engine is stopped
  (70_reset_and_hazards R183; 95_test_vectors P3 event 11). -/
  | holdLow (periods : Nat)
deriving DecidableEq, Repr

/-- One entry of a trace (30_encoding R73). -/
inductive Arrival
  /-- `H:ooo`: a word on the host command port. -/
  | host (cmd : BitVec 3)
  /-- `P:kk`: a word on the progress port. -/
  | progress (pk : BitVec 2)
  /-- Both presented together (60_exceptions R136). -/
  | together (cmd : BitVec 3) (pk : BitVec 2)
  /-- An action of the environment. -/
  | env (e : EnvAction)
deriving DecidableEq, Repr

/-- The Pixel Store's bytes (20_memory R41): the listed ones; an unlisted byte reads 0 (log 4). -/
abbrev Memory := List Host.Cell

/-- The state: the block (10_state R25), the Pixel Store, the ports (30_encoding R60), the environment
(10_state R33), the model's bookkeeping, and the trace still to be presented. -/
structure State where
  /-- The instance's parameters (10_state R23, R24). -/
  cfg : Config
  /-- Lifecycle State register (10_state R20). -/
  state : Lifecycle
  /-- Stream Cursor register (10_state R21). -/
  cursor : CursorWord
  /-- The Duty Queue `Q[0..47]` (10_state R28). -/
  q : Vector DutyCode 48
  /-- The Pixel Store (20_memory R41). -/
  pix : Memory
  /-- A host command presented together with a progress signal, waiting (60_exceptions R136). -/
  hostCmd : Option (BitVec 3)
  /-- The transfer-control port: the command of the last event, until the engine receives it (30_encoding R66). -/
  xc : XferCmd
  /-- The host response port: the response pending, until the host receives it (30_encoding R64). -/
  rsp : Option Response
  /-- `xe_mode` (10_state R33). -/
  xeMode : XeMode
  /-- `rp`, the consumption pointer (10_state R33). -/
  rp : Fin 48
  /-- `pend`, the signals raised and not yet delivered, oldest first (60_exceptions R135). -/
  pend : List Pending
  /-- `line`, the output line's level (10_state R33). -/
  line : Level
  /-- `wave`, the codes copied since the last `START_CIRCULAR`, oldest first (10_state R33). -/
  wave : List DutyCode
  /-- Model bookkeeping: whole carrier periods of continuous low seen last (log 8). -/
  lowRun : Nat
  /-- Model bookkeeping: whether anything but low may have been on the line (log 8). -/
  dataSeen : Bool
  /-- Model bookkeeping: whether a torn write has corrupted the current cycle (70_reset_and_hazards R180). -/
  torn : Bool
  /-- Model bookkeeping: carrier periods the engine has run (log 20). -/
  periods : Nat
  /-- Model bookkeeping: carrier periods the progress signal delivered last had waited, `none` where it was no signal the
  engine had raised (log 20). -/
  delay : Option Nat
  /-- Model bookkeeping: the hazards recorded, oldest first. -/
  hazards : List Hazard
  /-- Model bookkeeping: the commands the engine has received, oldest first (log 6). -/
  xcLog : List XferCmd
  /-- Model bookkeeping: the responses the host has received, oldest first (log 6). -/
  rspLog : List Response
  /-- Model bookkeeping: how many free values have been drawn (log 9). -/
  draws : Nat
  /-- The events still to be presented (30_encoding R73, 60_exceptions R156). -/
  trace : List Arrival
deriving DecidableEq, Repr

/-- Why the machine stops with a fault. -/
inductive Fault
  /-- An access to a pixel that does not exist (20_memory R44). Raised by a host write outside the store; by
  `start` and `notify` only where 20_memory R44 shows they cannot reach it. SAFE: the model stops. -/
  | pixelOutOfRange
deriving DecidableEq, Repr

/-- Why the model gives no next state. -/
inductive Refusal
  /-- An instruction without a meaning: raised by an arm of `exec` only. SAFE: nothing follows from it. -/
  | notModelled (mnemonic : String)
  /-- A reserved host command (30_encoding R71: "a model refuses a trace that contains one"). Raised by the
  meaning of RESERVED_HOST. SAFE. -/
  | reservedHostCommand
  /-- `UPDATE` with `N = 0` (20_memory R44, 93_implementation_defined U1). Raised by `start`. SAFE. -/
  | emptyPixelStore
  /-- Parameters outside 00_scope R8 to R10 (92_eei_decisions D18, 93_implementation_defined U22). Raised by
  `step`. SAFE. -/
  | badInstance
  /-- A response word that is never produced (30_encoding R64). Raised by `step`. SAFE. -/
  | undecodableWord
deriving DecidableEq, Repr

/-- The machine right after hardware reset, for an instance with parameters `c` (10_state R34,
70_reset_and_hazards R170). Where R34 says "unspecified" the value is the model's (log 3, log 4). -/
def State.resetOf (c : Config) : State where
  cfg := c
  state := .idle
  cursor := 0
  q := Vector.replicate 48 0
  pix := []
  hostCmd := none
  xc := .none
  rsp := none
  xeMode := .stopped
  rp := 0
  pend := []
  line := .low
  wave := []
  lowRun := 0
  dataSeen := false
  torn := false
  periods := 0
  delay := none
  hazards := []
  xcLog := []
  rspLog := []
  draws := 0
  trace := []

/-- The machine right after reset, for the example instance (log 2). -/
def State.reset : State := State.resetOf Config.example3

end Sys2Proof.Machine
end

