-- ==== Sys2Proof/Machine/Operands.lean ====
section
/-!
DEFINITION. Machine/Operands.lean: the instance's derived constants and their constraints (00_scope R8 to R10), the
operand of `notify` (30_encoding R67), and the code words of the named values (10_state R20, 30_encoding R64 to R66).
-/

namespace Sys2Proof.Machine

/-- `FRAME_NS`, the duration of one frame (00_scope R7). -/
def frameNs (c : Config) : Nat := frameLen * c.carrierNs

/-- The least `RESET_CYCLES` for a carrier period of `p` nanoseconds: `ceil(50000 / (24 × P))`
(00_scope R8, 70_reset_and_hazards R188). -/
def resetCyclesFor (p : Nat) : Nat := (latchMinNs + frameLen * p - 1) / (frameLen * p)

/-- 00_scope R9: the two calibrated codes stand in their bands. -/
def calibrated (c : Config) : Bool :=
  decide (0 < c.periodTicks)
    && decide (3 * c.periodTicks ≤ 10 * c.zeroCode.toNat) && decide (10 * c.zeroCode.toNat ≤ 4 * c.periodTicks)
    && decide (6 * c.periodTicks ≤ 10 * c.oneCode.toNat) && decide (10 * c.oneCode.toNat ≤ 8 * c.periodTicks)

/-- 00_scope R10 and the open parameters of 92_eei_decisions: the offsets are a permutation of 0, 8, 16. -/
def offsetsPermute (c : Config) : Bool :=
  [(0, 8, 16), (0, 16, 8), (8, 0, 16), (8, 16, 0), (16, 0, 8), (16, 8, 0)].contains (c.offG, c.offR, c.offB)

/-- 00_scope R8, with the model's own bound that the cycle index fits the cursor (log 2). -/
def latches (c : Config) : Bool :=
  decide (1 ≤ c.resetCycles) && decide (c.resetCycles ≤ 65535) && decide (latchMinNs ≤ c.resetCycles * frameNs c)

/-- An instance the spec admits: 00_scope R8 to R10. The last clause is 42_control_surface R114's "fits 32 bits"
(it can fail only for a recalibrated carrier, log 2). -/
def validConfig (c : Config) : Bool :=
  decide (1 ≤ c.n) && decide (c.n ≤ 65535) && calibrated c && offsetsPermute c && latches c
    && decide ((c.n + c.resetCycles) * frameNs c / 1000 < 2 ^ 31)

/-- The first queue index of a slot: `SLOT0_BASE = 0`, `SLOT1_BASE = 24` (00_scope R7). -/
def slotBase : Slot → Nat
  | .slot0 => 0
  | .slot1 => frameLen

/-- `slot_base(pk) = 24 × pk[0]` for `pk[1] = 0` (30_encoding R67). -/
def slotBaseOfWord (pk : BitVec 2) : Nat := frameLen * (pk.getLsbD 0).toNat

/-- Whether a queue index lies in a slot (70_reset_and_hazards R180). -/
def inSlot (sl : Slot) (i : Nat) : Bool := decide (slotBase sl ≤ i) && decide (i < slotBase sl + frameLen)

/-- The 2-bit encoding of the Lifecycle State register (10_state R20). -/
def lifecycleWord : Lifecycle → BitVec 2
  | .idle => 0b00#2
  | .active => 0b01#2
  | .resetting => 0b10#2

/-- The 2-bit word of a transfer-control command (30_encoding R66). -/
def xferWord : XferCmd → BitVec 2
  | .none => 0b00#2
  | .startCircular => 0b01#2
  | .stopAfterHalf => 0b10#2
  | .stopNow => 0b11#2

/-- The 2-bit word of a result code (30_encoding R64). -/
def resultWord : ResultCode → BitVec 2
  | .ok => 0b00#2
  | .busy => 0b01#2
  | .notRunning => 0b10#2

/-- The 2-bit word of a progress kind (30_encoding R65). -/
def progressWord : ProgressKind → BitVec 2
  | .half => 0b00#2
  | .full => 0b01#2
  | .unrec k => 0b1#1 ++ k

end Sys2Proof.Machine
end

