-- ==== Sys2Proof/Machine/Ops.lean ====
section
/-!
DEFINITION. Machine/Ops.lean: the named operations over the Pixel Store, the registers, the Duty Queue and the
ports, and the two shared ways an event goes wrong (60_exceptions R130): a result code and the anomaly path.
-/

namespace Sys2Proof.Machine

/-- What an event answers. -/
abbrev Out := Host.Outcome State Fault Refusal

/-! ### The Pixel Store (20_memory R41 to R44) -/

/-- One byte of the store; an unlisted byte reads 0 (log 4). -/
def byteAt : Memory → Nat → Byte
  | [], _ => 0
  | (a, v) :: m, x => if x = a then v else byteAt m x

/-- Write one byte, keeping the canonical form. -/
def putByte : Memory → Nat → Byte → Memory
  | [], x, v => if v = 0 then [] else [(x, v)]
  | (a, w) :: m, x, v =>
    if x < a then (if v = 0 then (a, w) :: m else (x, v) :: (a, w) :: m)
    else if x = a then (if v = 0 then m else (a, v) :: m)
    else (a, w) :: putByte m x v

/-- Whether every listed address is above `lo`, the addresses rise strictly and no listed byte is 0. -/
def memWfAbove : Option Nat → Memory → Bool
  | _, [] => true
  | lo, (a, v) :: m =>
    (match lo with | none => true | some l => decide (l < a)) && v != 0 && memWfAbove (some a) m

/-- The canonical form: addresses strictly rising, no entry equal to what an unlisted address reads as. -/
def Memory.wf (m : Memory) : Bool := memWfAbove none m

/-- Whether every listed address is inside a store of `bytes` bytes (20_memory R41: `3 × N`). -/
def memWithin (bytes : Nat) (m : Memory) : Bool := m.all fun c => decide (c.1 < bytes)

/-- The three bytes of pixel `i` (20_memory R41, R42). -/
def pixelAt (m : Memory) (i : Nat) : Pixel :=
  { r := byteAt m (3 * i), g := byteAt m (3 * i + 1), b := byteAt m (3 * i + 2) }

/-- Write the three bytes of pixel `i` (20_memory R43). -/
def putPixel (m : Memory) (i : Nat) (p : Pixel) : Memory :=
  putByte (putByte (putByte m (3 * i) p.r) (3 * i + 1) p.g) (3 * i + 2) p.b

/-- `for i in 0 .. n - 1: PixWrite(i, (0, 0, 0))` (42_control_surface R110). -/
def zeroPixels (m : Memory) : Nat → Memory
  | 0 => m
  | n + 1 => putPixel (zeroPixels m n) n { r := 0, g := 0, b := 0 }

/-- `PixRead(i)` (20_memory R42); `none` for an index outside `0 .. N - 1` (20_memory R44). -/
def pixRead (s : State) (i : Nat) : Option Pixel := if i < s.cfg.n then some (pixelAt s.pix i) else none

/-- `PixWrite(i, p)` (20_memory R43); a fault for an index outside `0 .. N - 1` (20_memory R44). -/
def pixWrite (i : Nat) (p : Pixel) (s : State) : Out :=
  if i < s.cfg.n then .next { s with pix := putPixel s.pix i p } else .fault .pixelOutOfRange

/-! ### The registers (10_state R20, R21) -/

/-- `state <- l`. -/
def setState (l : Lifecycle) (s : State) : State := { s with state := l }

/-- `cursor <- v`. -/
def setCursor (v : CursorWord) (s : State) : State := { s with cursor := v }

/-! ### The Duty Queue (20_memory R45, R46) -/

/-- `Q[b] <- c0; Q[b + 1] <- c1; ...` in ascending index order (20_memory R46). -/
def writeRun (q : Vector DutyCode 48) : Nat → List DutyCode → Vector DutyCode 48
  | _, [] => q
  | b, c :: cs => writeRun (q.setIfInBounds b c) (b + 1) cs

/-- The engine is running or stop-pending with its pointer inside the slot (70_reset_and_hazards R180). -/
def overlaps (sl : Slot) (s : State) : Bool := decide (s.xeMode ≠ .stopped) && inSlot sl s.rp.val

/-- The signal delivered last waited a frame period or more, and the engine is not stopped: the refill deadline is missed
(70_reset_and_hazards R181: "at `d >= 24` the refill is a torn write"; log 20). -/
def late (s : State) : Bool :=
  decide (s.xeMode ≠ .stopped) && (match s.delay with | some d => decide (frameLen ≤ d) | none => false)

/-- Record a torn write (70_reset_and_hazards R180, log 7). -/
def recordTorn (s : State) : State := { s with torn := true, hazards := s.hazards ++ [.tornWrite] }

/-- A write of a slot: recorded as a torn write where the engine is inside it (70_reset_and_hazards R180). -/
def touchSlot (sl : Slot) (s : State) : State := if overlaps sl s then recordTorn s else s

/-- A refill by a progress signal: recorded as a torn write where it is late, whatever the pointer has reached
(70_reset_and_hazards R181). Where the pointer is inside the slot `touchSlot` makes the one record. -/
def checkDeadline (sl : Slot) (s : State) : State := if late s && !overlaps sl s then recordTorn s else s

/-- A new cycle begins: what was torn was the cycle before (70_reset_and_hazards R180: "the waveform of the current
cycle"). -/
def clearTorn (s : State) : State := { s with torn := false }

/-- Put new contents into the queue. -/
def setQueue (q : Vector DutyCode 48) (s : State) : State := { s with q := q }

/-! ### The ports (30_encoding R64, R66) -/

/-- `xfer <- c`: the event's transfer-control command, `none` where it emits nothing (30_encoding R66). -/
def emit (c : XferCmd) (s : State) : State := { s with xc := c }

/-- `respond(code, val)` (30_encoding R64). -/
def respond (code : ResultCode) (val : RspValue) (s : State) : State := { s with rsp := some { code := code, val := val } }

/-- Go on with `f` after an answer that is a next state. -/
def andThen (o : Out) (f : State → State) : Out :=
  match o with
  | .next s => .next (f s)
  | .fault r => .fault r
  | .refused r => .refused r

/-! ### The errors (60_exceptions R130) -/

/-- `raise Busy`, `raise NotRunning`: the command ends with that result code, value 0, and no other effect
(60_exceptions R131, R132). -/
def raiseResult (code : ResultCode) (s : State) : State := respond code 0 (emit .none s)

/-- `anomaly`, the whole effect of `ProtocolAnomaly` (41_state_machine R99, 60_exceptions R133): one `STOP_NOW`
and `state <- Idle`. -/
def anomaly (s : State) : State := setState .idle (emit .stopNow s)

end Sys2Proof.Machine
end

