-- ==== Sys2Proof/Machine/Flags.lean ====
section
/-!
DEFINITION. Machine/Flags.lean: the block has no flags (10_state R26); the one value it computes about itself is
the `STATUS` result (42_control_surface R112 to R114).
-/

namespace Sys2Proof.Machine

/-- `rem`: the progress signals still to come before `Idle` (42_control_surface R113, 41_state_machine R103).
All quantities are unsigned (00_scope section 5): a difference below 0, in states no run reaches, is 0 (log 10). -/
def remaining (s : State) : Nat :=
  match s.state with
  | .idle => 0
  | .active => s.cfg.n - s.cursor.toNat + s.cfg.resetCycles
  | .resetting => s.cfg.resetCycles - s.cursor.toNat

/-- `est_us`, whole microseconds, rounded down (42_control_surface R113). -/
def estUs (s : State) : Nat := remaining s * frameNs s.cfg / 1000

/-- `status_busy`: `- max(1, est_us)` as a 32-bit two's complement number (42_control_surface R114). -/
def statusBusy (s : State) : RspValue := BitVec.ofInt 32 (-(max 1 (estUs s) : Nat))

/-- The value `STATUS` responds (42_control_surface R112). -/
def statusValue (s : State) : RspValue :=
  match s.state with
  | .idle => 0
  | .active => statusBusy s
  | .resetting => statusBusy s

end Sys2Proof.Machine
end

