-- ==== Sys2Proof/Machine/Encoders.lean ====
section
/-!
DEFINITION. Machine/Encoders.lean: the Frame Encoder and the Reset Encoder (40_encoders R80 to R85).
-/

namespace Sys2Proof.Machine

/-- `code(bit)` (40_encoders R81). -/
def code (c : Config) (bit : Bool) : DutyCode := if bit then c.oneCode else c.zeroCode

/-- The eight codes of one channel, most significant bit first: `code(v[7 - j])` for `j = 0 .. 7` (40_encoders R80). -/
def channelCodes (c : Config) (v : Byte) : List DutyCode :=
  [7, 6, 5, 4, 3, 2, 1, 0].map fun i => code c (v.getLsbD i)

/-- The 24 writes of `encode_frame` (40_encoders R80): green, red, blue, each at its offset. -/
def frameInto (c : Config) (p : Pixel) (base : Nat) (q : Vector DutyCode 48) : Vector DutyCode 48 :=
  writeRun (writeRun (writeRun q (base + c.offG) (channelCodes c p.g)) (base + c.offR) (channelCodes c p.r))
    (base + c.offB) (channelCodes c p.b)

/-- `encode_frame(p, base)` (40_encoders R80), with the record of a torn write. -/
def encodeFrame (p : Pixel) (sl : Slot) (s : State) : State :=
  setQueue (frameInto s.cfg p (slotBase sl) s.q) (touchSlot sl s)

/-- `encode_reset(base)` (40_encoders R83), with the record of a torn write. -/
def encodeReset (sl : Slot) (s : State) : State :=
  setQueue (writeRun s.q (slotBase sl) (List.replicate frameLen offCode)) (touchSlot sl s)

/-- The 24-bit word `w = (g << 16) | (r << 8) | b` (40_encoders R82). -/
def frameWord (p : Pixel) : BitVec 24 := p.g ++ p.r ++ p.b

/-- `frame(p)` for the documented wire order: `[code(w[23]), ..., code(w[0])]` (40_encoders R82). -/
def frame (c : Config) (p : Pixel) : List DutyCode :=
  (List.range frameLen).map fun k => code c ((frameWord p).getLsbD (23 - k))

/-- One code of a frame for any channel order (40_encoders R85): element `k` carries a bit of the channel whose
offset it lies in. -/
def frameCode (c : Config) (p : Pixel) (k : Nat) : DutyCode :=
  if c.offG ≤ k ∧ k < c.offG + 8 then code c (p.g.getLsbD (c.offG + 7 - k))
  else if c.offR ≤ k ∧ k < c.offR + 8 then code c (p.r.getLsbD (c.offR + 7 - k))
  else code c (p.b.getLsbD (c.offB + 7 - k))

end Sys2Proof.Machine
end

