-- ==== Sys2Proof/Machine/Lifecycle.lean ====
section
/-!
DEFINITION. Machine/Lifecycle.lean: the Streaming State Machine's procedures `start`, `notify`, `abort_t`
(41_state_machine R90 to R98); `anomaly` (R99) stands in Ops.lean.
-/

namespace Sys2Proof.Machine

/-- Enter a cycle: `cursor`, `state`, then `START_CIRCULAR` (41_state_machine R90, R101). -/
def beginCycle (v : CursorWord) (l : Lifecycle) (s : State) : State :=
  emit .startCircular (setState l (setCursor v s))

/-- `start` in `Idle` (41_state_machine R90). A new cycle begins untorn. `N = 0` is refused (20_memory R44). -/
def start (s : State) : Out :=
  if s.cfg.n = 0 then .refused .emptyPixelStore
  else
    match pixRead s 0 with
    | none => .fault .pixelOutOfRange
    | some p0 =>
      let s0 := encodeFrame p0 .slot0 (clearTorn s)
      if s.cfg.n = 1 then .next (beginCycle 0 .resetting (encodeReset .slot1 s0))
      else
        match pixRead s 1 with
        | none => .fault .pixelOutOfRange
        | some p1 => .next (beginCycle 1 .active (encodeFrame p1 .slot1 s0))

/-- `notify` in `Active` (41_state_machine R92, R93): the next pixel, or the first reset block. `cursor + 1` is
compared without wrapping (41_state_machine R102). A refill has the deadline of 70_reset_and_hazards R181. -/
def notifyActive (sl : Slot) (s : State) : Out :=
  if s.cursor.toNat + 1 < s.cfg.n then
    match pixRead s (s.cursor + 1).toNat with
    | none => .fault .pixelOutOfRange
    | some p => .next (encodeFrame p sl (checkDeadline sl (setCursor (s.cursor + 1) s)))
  else .next (setState .resetting (encodeReset sl (checkDeadline sl (setCursor 0 s))))

/-- `notify` in `Resetting` (41_state_machine R94, R95): another reset block, or the end of the cycle. -/
def notifyResetting (sl : Slot) (s : State) : State :=
  if s.cursor.toNat < s.cfg.resetCycles - 1 then encodeReset sl (checkDeadline sl (setCursor (s.cursor + 1) s))
  else emit .stopAfterHalf (setState .idle s)

/-- `notify(slotIndex)` (41_state_machine R92 to R96). The operand is trusted (R97). -/
def notify (sl : Slot) (s : State) : Out :=
  match s.state with
  | .active => notifyActive sl (emit .none s)
  | .resetting => .next (notifyResetting sl (emit .none s))
  | .idle => .next (anomaly s)

/-- `abort_t` outside `Idle` (41_state_machine R98): the stop, then `state`. -/
def abortRunning (s : State) : State := setState .idle (emit .stopNow s)

end Sys2Proof.Machine
end

