-- ==== Sys2Proof/Machine/Commands.lean ====
section
/-!
DEFINITION. Machine/Commands.lean: the meanings of the HOST family (42_control_surface R110 to R116, R121, R122).
-/

namespace Sys2Proof.Machine

/-- `INIT` (42_control_surface R110), the same effects in every state (R121). -/
def execInit (s : State) : Out :=
  .next (respond .ok 0 (setState .idle (emit .none { s with pix := zeroPixels s.pix s.cfg.n })))

/-- `UPDATE` (42_control_surface R111). -/
def execUpdate (s : State) : Out :=
  match s.state with
  | .idle => andThen (start s) (respond .ok 0)
  | .active => .next (raiseResult .busy s)
  | .resetting => .next (raiseResult .busy s)

/-- `STATUS` (42_control_surface R112). -/
def execStatus (s : State) : Out := .next (respond .ok (statusValue s) (emit .none s))

/-- `ABORT` (42_control_surface R116). -/
def execAbort (s : State) : Out :=
  match s.state with
  | .idle => .next (raiseResult .notRunning s)
  | .active => .next (respond .ok 0 (abortRunning s))
  | .resetting => .next (respond .ok 0 (abortRunning s))

/-- A reserved host command has no meaning: "a model refuses it" (30_encoding R71, 42_control_surface R122). -/
def execReservedHost (_low : BitVec 2) (_s : State) : Out := .refused .reservedHostCommand

end Sys2Proof.Machine
end

