-- ==== Sys2Proof/Machine/Engine.lean ====
section
/-!
DEFINITION. Machine/Engine.lean: the reference transfer engine and carrier (60_exceptions R147 to R155), and the
meanings of the XCTL family: what the engine does when it receives a command.
-/

namespace Sys2Proof.Machine

/-- The engine has received a command (log 6). -/
def logCommand (c : XferCmd) (s : State) : State := { s with xcLog := s.xcLog ++ [c] }

/-- A frame that starts now needs the latch minimum before it: the engine has not stopped, so that this is the restart of
60_exceptions R152, or data may have been on the line before (70_reset_and_hazards R183, log 8). -/
def latchNeeded (s : State) : Bool := s.dataSeen || decide (s.xeMode ≠ .stopped)

/-- A latch is needed and less than `LATCH_MIN_NS` of continuous low went before (60_exceptions R152, log 8). DESIGN
CHOICE, log 22: 70_reset_and_hazards R184 and 92_eei_decisions D25 name both faults for every `UPDATE` in the final drain,
R152 and U11 `ShortLatch` only under the latch minimum; the model asks R152's question, so late in the drain, with the
minimum already sent, it records `TornWrite` alone. Unsafe to read "no `ShortLatch`" as "the drain was over". -/
def latchTooShort (s : State) : Bool := latchNeeded s && decide (s.lowRun * s.cfg.carrierNs < latchMinNs)

/-- Record `ShortLatch` where the latch was too short (60_exceptions R152, 70_reset_and_hazards R183). -/
def checkLatch (s : State) : State :=
  if latchTooShort s then { s with hazards := s.hazards ++ [.shortLatch] } else s

/-- `XE-START` (60_exceptions R147), from any mode (R152). -/
def xeStart (s : State) : State :=
  let t := checkLatch s
  { t with xeMode := .running, rp := 0, wave := [] }

/-- `XE-STOP-AFTER-HALF` (60_exceptions R150). -/
def xeStopAfterHalf (s : State) : State :=
  match s.xeMode with
  | .running => { s with xeMode := .stopPending }
  | .stopPending => s
  | .stopped => s

/-- `XE-STOP-NOW` (60_exceptions R151): the line's level is a free value (R155, log 9). -/
def xeStopNow (s : State) : State :=
  { s with
    xeMode := .stopped
    line := Config.freeLevel s.draws
    draws := s.draws + 1
    lowRun := 0
    dataSeen := true }

/-- Timer ticks of one carrier period that are high for a duty code: `min(c, PERIOD_TICKS)` (60_exceptions R154). -/
def highTicks (c : Config) (d : DutyCode) : Nat := min d.toNat c.periodTicks

/-- The line over one carrier period, one level a timer tick: high first, then low (60_exceptions R154). -/
def periodLevels (c : Config) (d : DutyCode) : List Level :=
  List.replicate (highTicks c d) .high ++ List.replicate (c.periodTicks - highTicks c d) .low

/-- `emit_period(c)` (60_exceptions R154): the level the period ends with, and the count of whole low periods. -/
def emitPeriod (d : DutyCode) (s : State) : State :=
  { s with
    line := if highTicks s.cfg d < s.cfg.periodTicks then .low else .high
    lowRun := if highTicks s.cfg d = 0 then s.lowRun + 1 else 0
    dataSeen := s.dataSeen || decide (highTicks s.cfg d ≠ 0) }

/-- `boundary(k)` (60_exceptions R149). After a graceful stop the carrier holds the line low (R155, log 11). -/
def boundary (k : ProgressKind) (s : State) : State :=
  match s.xeMode with
  | .running => { s with pend := s.pend ++ [{ kind := k, raisedAt := s.periods }] }
  | .stopPending => { s with xeMode := .stopped, line := .low }
  | .stopped => s

/-- The code the engine copies: `Q[rp]`, or a free value once the cycle is torn (60_exceptions R148,
70_reset_and_hazards R180). -/
def copiedCode (s : State) : DutyCode := if s.torn then Config.freeCode s.draws else s.q[s.rp]

/-- `wave <- wave ++ [c]`; a free value that was drawn is used up. -/
def copyCode (d : DutyCode) (s : State) : State :=
  { s with wave := s.wave ++ [d], draws := if s.torn then s.draws + 1 else s.draws }

/-- `rp <- (rp + 1) mod 48` (60_exceptions R148), and one more carrier period has run (log 20). -/
def advancePointer (s : State) : State := { s with rp := s.rp + 1, periods := s.periods + 1 }

/-- The signal of the half that ends at the new pointer, if one ends there (60_exceptions R148). -/
def atBoundary (s : State) : State :=
  if s.rp = 24 then boundary .half s
  else if s.rp = 0 then boundary .full s
  else s

/-- `XE-TICK` while it is enabled (60_exceptions R148). -/
def xeTickEnabled (s : State) : State :=
  atBoundary (advancePointer (emitPeriod (copiedCode s) (copyCode (copiedCode s) s)))

/-- `XE-TICK`: enabled if and only if `xe_mode != XStopped` (60_exceptions R148). -/
def xeTick (s : State) : State := if s.xeMode = .stopped then s else xeTickEnabled s

/-- `NONE`: no instruction to the engine (30_encoding R66). -/
def execXcNone (s : State) : Out := .next s

/-- `START_CIRCULAR` is received (60_exceptions R147, R152). -/
def execStartCircular (s : State) : Out := .next (xeStart (logCommand .startCircular s))

/-- `STOP_AFTER_HALF` is received (60_exceptions R150). -/
def execStopAfterHalf (s : State) : Out := .next (xeStopAfterHalf (logCommand .stopAfterHalf s))

/-- `STOP_NOW` is received (60_exceptions R151). -/
def execStopNow (s : State) : Out := .next (xeStopNow (logCommand .stopNow s))

end Sys2Proof.Machine
end

