-- ==== Sys2Proof/Machine/Progress.lean ====
section
/-!
DEFINITION. Machine/Progress.lean: the meanings of the PROG family (42_control_surface R117, R118).
-/

namespace Sys2Proof.Machine

/-- `HALF`: `notify(0)` (42_control_surface R117). -/
def execHalf (s : State) : Out := notify .slot0 s

/-- `FULL`: `notify(24)` (42_control_surface R117). -/
def execFull (s : State) : Out := notify .slot1 s

/-- `UNREC`: the anomaly path, in every state (42_control_surface R118). -/
def execUnrec (_k : BitVec 1) (s : State) : Out := .next (anomaly s)

end Sys2Proof.Machine
end

