-- ==== Sys2Proof/Machine/Responses.lean ====
section
/-!
DEFINITION. Machine/Responses.lean: the meanings of the RSP family: the host receives a response (30_encoding R64).
It touches nothing of the block (60_exceptions R131, R132).
-/

namespace Sys2Proof.Machine

/-- The host has received a response (log 6). -/
def logResponse (r : Response) (s : State) : State := { s with rspLog := s.rspLog ++ [r] }

/-- `Ok` with its value (30_encoding R64). -/
def execRspOk (val : RspValue) (s : State) : Out := .next (logResponse { code := .ok, val := val } s)

/-- `Busy` (60_exceptions R131). -/
def execRspBusy (val : RspValue) (s : State) : Out := .next (logResponse { code := .busy, val := val } s)

/-- `NotRunning` (60_exceptions R132). -/
def execRspNotRunning (val : RspValue) (s : State) : Out := .next (logResponse { code := .notRunning, val := val } s)

end Sys2Proof.Machine
end

