-- ==== Sys2Proof/Syntax.lean ====
section
/-!
DEFINITION. Syntax.lean: the events of the four ports, one constructor per row of spec/opcode_table.json
(00_scope R11: an "instruction" is an event; 30_encoding R62, R64, R65, R66).
-/

namespace Sys2Proof

/-- One event. The HOST and PROG rows are what the block receives, the XCTL rows what the transfer engine
receives from the block, the RSP rows what the host receives from the block (30_encoding R75). -/
inductive Instr
  /-- HOST 000 (42_control_surface R110). -/
  | init
  /-- HOST 001 (42_control_surface R111). -/
  | update
  /-- HOST 010 (42_control_surface R112). -/
  | status
  /-- HOST 011 (42_control_surface R116). -/
  | abort
  /-- HOST 1xx (30_encoding R71); `low` is `cmd[1:0]`. -/
  | reservedHost (low : BitVec 2)
  /-- PROG 00 (42_control_surface R117). -/
  | half
  /-- PROG 01 (42_control_surface R117). -/
  | full
  /-- PROG 1k (42_control_surface R118); `k` is `pk[0]`, ignored. -/
  | unrec (k : BitVec 1)
  /-- XCTL 00 (30_encoding R66). -/
  | xcNone
  /-- XCTL 01 (60_exceptions R147). -/
  | startCircular
  /-- XCTL 10 (60_exceptions R150). -/
  | stopAfterHalf
  /-- XCTL 11 (60_exceptions R151). -/
  | stopNow
  /-- RSP 00 with its `rsp_val` (30_encoding R64). -/
  | rspOk (val : RspValue)
  /-- RSP 01 with its `rsp_val` (60_exceptions R131). -/
  | rspBusy (val : RspValue)
  /-- RSP 10 with its `rsp_val` (60_exceptions R132). -/
  | rspNotRunning (val : RspValue)
deriving DecidableEq, Repr

end Sys2Proof
end

