-- ==== Sys2Proof/Machine/Dispatch.lean ====
section
/-!
DEFINITION. Machine/Dispatch.lean: one arm per event, each one call of its meaning.
-/

namespace Sys2Proof.Machine

def exec (i : Instr) (s : State) : Host.Outcome State Fault Refusal :=
  match i with
  -- HOST
  | .init => Sys2Proof.Machine.execInit s
  | .update => Sys2Proof.Machine.execUpdate s
  | .status => Sys2Proof.Machine.execStatus s
  | .abort => Sys2Proof.Machine.execAbort s
  | .reservedHost low => Sys2Proof.Machine.execReservedHost low s
  -- PROG
  | .half => Sys2Proof.Machine.execHalf s
  | .full => Sys2Proof.Machine.execFull s
  | .unrec k => Sys2Proof.Machine.execUnrec k s
  -- XCTL
  | .xcNone => Sys2Proof.Machine.execXcNone s
  | .startCircular => Sys2Proof.Machine.execStartCircular s
  | .stopAfterHalf => Sys2Proof.Machine.execStopAfterHalf s
  | .stopNow => Sys2Proof.Machine.execStopNow s
  -- RSP
  | .rspOk val => Sys2Proof.Machine.execRspOk val s
  | .rspBusy val => Sys2Proof.Machine.execRspBusy val s
  | .rspNotRunning val => Sys2Proof.Machine.execRspNotRunning val s

end Sys2Proof.Machine
end

