-- ==== Sys2Proof/WellFormed.lean ====
section
/-!
DEFINITION. WellFormed.lean: which events the ports can carry. Only a response's value is restricted
(30_encoding R64; 90_conflicts C1): every other field is free.
-/

namespace Sys2Proof

/-- 30_encoding R64: with `Ok` the value is 0 or a negative `STATUS` result; with `Busy` and `NotRunning` it is 0. -/
def Instr.wellFormed : Instr → Bool
  | .init => true
  | .update => true
  | .status => true
  | .abort => true
  | .reservedHost _ => true
  | .half => true
  | .full => true
  | .unrec _ => true
  | .xcNone => true
  | .startCircular => true
  | .stopAfterHalf => true
  | .stopNow => true
  | .rspOk val => val == 0 || val.msb
  | .rspBusy val => val == 0
  | .rspNotRunning val => val == 0

end Sys2Proof
end

