-- ==== Sys2Proof/Decode.lean ====
section
/-!
DEFINITION. Decode.lean: the words of the four ports, the decoder (30_encoding R62, R63, R65, R66, R75) and,
after it, the encoder.
-/

namespace Sys2Proof

/-- A word on one of the block's four ports (30_encoding R60). Which port carries it is part of what it means:
the four code tables overlap. -/
inductive PortWord
  /-- `cmd[2:0]` on the host command port (30_encoding R61). -/
  | host (cmd : BitVec 3)
  /-- `pk[1:0]` on the progress port (30_encoding R65). -/
  | prog (pk : BitVec 2)
  /-- `xc[1:0]` on the transfer-control port (30_encoding R66). -/
  | xctl (xc : BitVec 2)
  /-- `rsp_code[1:0]` and `rsp_val` on the host response port (30_encoding R64). -/
  | rsp (code : BitVec 2) (val : RspValue)
deriving DecidableEq, Repr

/-- Why a word is no event. -/
inductive DecodeError
  /-- `rsp_code = 0b11` (30_encoding R64: never produced). -/
  | rspCodeNeverProduced
  /-- A value that R64 never puts beside this `rsp_code`. -/
  | rspValueNeverProduced
deriving DecidableEq, Repr

/-- 30_encoding R62, R63: total on the 3-bit host command words. -/
def decodeHost (cmd : BitVec 3) : Instr :=
  if cmd = 0b000#3 then .init
  else if cmd = 0b001#3 then .update
  else if cmd = 0b010#3 then .status
  else if cmd = 0b011#3 then .abort
  else .reservedHost (cmd.extractLsb' 0 2)

/-- 30_encoding R65: total on the 2-bit progress kinds. -/
def decodeProg (pk : BitVec 2) : Instr :=
  if pk = 0b00#2 then .half
  else if pk = 0b01#2 then .full
  else .unrec (pk.extractLsb' 0 1)

/-- 30_encoding R66: total on the 2-bit transfer-control commands. -/
def decodeXctl (xc : BitVec 2) : Instr :=
  if xc = 0b00#2 then .xcNone
  else if xc = 0b01#2 then .startCircular
  else if xc = 0b10#2 then .stopAfterHalf
  else .stopNow

/-- 30_encoding R64: the three result codes; `0b11` is never produced. -/
def decodeRspCode (code : BitVec 2) (val : RspValue) : Except DecodeError Instr :=
  if code = 0b00#2 then .ok (.rspOk val)
  else if code = 0b01#2 then .ok (.rspBusy val)
  else if code = 0b10#2 then .ok (.rspNotRunning val)
  else .error .rspCodeNeverProduced

/-- A response word: its code, then the check of its value (30_encoding R64). -/
def decodeRsp (code : BitVec 2) (val : RspValue) : Except DecodeError Instr :=
  match decodeRspCode code val with
  | .ok i => if i.wellFormed then .ok i else .error .rspValueNeverProduced
  | .error e => .error e

/-- The decoder (30_encoding R75): total, a refusal by name only on the response port. -/
def decode : PortWord → Except DecodeError Instr
  | .host cmd => .ok (decodeHost cmd)
  | .prog pk => .ok (decodeProg pk)
  | .xctl xc => .ok (decodeXctl xc)
  | .rsp code val => decodeRsp code val

/-- The encoder, from the same code tables (30_encoding R62, R64, R65, R66). -/
def encode : Instr → PortWord
  | .init => .host 0b000#3
  | .update => .host 0b001#3
  | .status => .host 0b010#3
  | .abort => .host 0b011#3
  | .reservedHost low => .host (0b1#1 ++ low)
  | .half => .prog 0b00#2
  | .full => .prog 0b01#2
  | .unrec k => .prog (0b1#1 ++ k)
  | .xcNone => .xctl 0b00#2
  | .startCircular => .xctl 0b01#2
  | .stopAfterHalf => .xctl 0b10#2
  | .stopNow => .xctl 0b11#2
  | .rspOk val => .rsp 0b00#2 val
  | .rspBusy val => .rsp 0b01#2 val
  | .rspNotRunning val => .rsp 0b10#2 val

/-- The port word a table word stands for (log 5). The table does not say the port, and its formats overlap: a
word of at most two bits is read on the progress port, a longer one on the host command port (the two ports the
block receives events on); a number too large for the port's width is no word of it. -/
def tablePortWord (nbits w : Nat) : Option PortWord :=
  if nbits ≤ 2 then (if w < 4 then some (.prog (BitVec.ofNat 2 w)) else none)
  else if w < 8 then some (.host (BitVec.ofNat 3 w)) else none

/-- The instruction the decoder reads from a table word. -/
def decodeTableWord (nbits w : Nat) : Option Instr :=
  match tablePortWord nbits w with
  | some p => (match decode p with | .ok i => some i | .error _ => none)
  | none => none

end Sys2Proof
end

