-- ==== Sys2Proof/Machine/Environment.lean ====
section
/-!
DEFINITION. Machine/Environment.lean: what the environment does by itself (hardware reset, host pixel writes, carrier
periods, held low), and which word or action comes next (60_exceptions R135, R136, R138).
-/

namespace Sys2Proof.Machine

/-- Hardware reset applied as an event (70_reset_and_hazards R170): `Idle`, nothing emitted, no response pending;
`cursor` and `Q` unspecified, so free values (10_state R34, log 9); the Pixel Store and the engine untouched. DESIGN
CHOICE, log 21: for a reset in mid-cycle R171, R187 and R32 speak of a queue that keeps its stale slots, R170 and vector
V29 of an unspecified one; the model draws every element freely, so what a running engine then sends is free. Safe: the
stale slots are among the draws. -/
def hardwareReset (s : State) : State :=
  { s with
    state := .idle
    cursor := Config.freeCursor s.draws
    q := Vector.ofFn fun i => Config.freeCode (s.draws + i.val)
    draws := s.draws + 48
    xc := .none
    rsp := none }

/-- The line is held low for some carrier periods; possible only while the engine is stopped
(70_reset_and_hazards R183). -/
def holdLow (periods : Nat) (s : State) : State :=
  if s.xeMode = .stopped then { s with line := .low, lowRun := s.lowRun + periods } else s

/-- One action of the environment. -/
def envAct (e : EnvAction) (s : State) : Out :=
  match e with
  | .reset => .next (hardwareReset s)
  | .pixWrite i p => pixWrite i p s
  | .tick => .next (xeTick s)
  | .holdLow k => .next (holdLow k s)

/-- The oldest pending signal is delivered: it leaves `pend`, and how long it waited is noted (60_exceptions R135, log 20). -/
def deliverOldest (k : Pending) (ks : List Pending) (s : State) : State :=
  { s with pend := ks, delay := some (s.periods - k.raisedAt) }

/-- A word presented on the progress port delivers the oldest pending signal where it is that one; otherwise it is
a signal of a wider environment, which nothing has raised and which has no delay (60_exceptions R135, R153, log 17,
log 20). -/
def deliver (pk : BitVec 2) (s : State) : State :=
  match s.pend with
  | [] => { s with delay := none }
  | k :: ks => if progressWord k.kind = pk then deliverOldest k ks s else { s with delay := none }

/-- What comes next. -/
inductive Fetched
  /-- A word on a port; the state has it no more. -/
  | word (w : PortWord) (s : State)
  /-- An action of the environment; the trace has it no more. -/
  | action (e : EnvAction) (s : State)
  /-- Nothing is left to be presented. -/
  | nothing

/-- The next entry of the trace (30_encoding R73). Presented together, the signal goes first and the command waits
on its port (60_exceptions R136). -/
def fetchTrace (s : State) : Fetched :=
  match s.trace with
  | [] => .nothing
  | .host cmd :: rest => .word (.host cmd) { s with trace := rest }
  | .progress pk :: rest => .word (.prog pk) (deliver pk { s with trace := rest })
  | .together cmd pk :: rest => .word (.prog pk) (deliver pk { s with trace := rest, hostCmd := some cmd })
  | .env e :: rest => .action e { s with trace := rest }

/-- A host command that waits on its port goes before the trace. -/
def fetchCommand (s : State) : Fetched :=
  match s.hostCmd with
  | some cmd => .word (.host cmd) { s with hostCmd := none }
  | none => fetchTrace s

/-- With prompt delivery a pending signal goes before any command and any carrier period (60_exceptions R135, R136). -/
def fetchSignal (s : State) : Fetched :=
  match s.cfg.delivery, s.pend with
  | .prompt, k :: ks => .word (.prog (progressWord k.kind)) (deliverOldest k ks s)
  | .prompt, [] => fetchCommand s
  | .latent, _ => fetchCommand s

/-- A response on its port is received by the host before anything else is presented to the block. -/
def fetchResponse (s : State) : Fetched :=
  match s.rsp with
  | some r => .word (.rsp (resultWord r.code) r.val) { s with rsp := none }
  | none => fetchSignal s

/-- What comes next: a command on the transfer-control port is received by the engine first of all, so that no event
and no carrier period falls between an event and its command (60_exceptions R138). -/
def fetch (s : State) : Fetched :=
  match s.xc with
  | .none => fetchResponse s
  | .startCircular => .word (.xctl (xferWord .startCircular)) { s with xc := .none }
  | .stopAfterHalf => .word (.xctl (xferWord .stopAfterHalf)) { s with xc := .none }
  | .stopNow => .word (.xctl (xferWord .stopNow)) { s with xc := .none }

/-- Place a word where the very next `fetch` takes it: on the host command port, or first in the trace for a
progress word, with nothing standing before it (log 5). -/
def placeWord (w : PortWord) (s : State) : State :=
  let t := { s with xc := .none, rsp := none, pend := (match s.cfg.delivery with | .prompt => [] | .latent => s.pend) }
  match w with
  | .host cmd => { t with hostCmd := some cmd }
  | .prog pk => { t with hostCmd := none, trace := .progress pk :: s.trace }
  | .xctl _ => s
  | .rsp _ _ => s

end Sys2Proof.Machine
end

