-- ==== Sys2Proof/Machine/Step.lean ====
section
/-!
DEFINITION. Machine/Step.lean: one step of the whole machine: the next word is decoded and run, or the environment
acts, or nothing is left to be presented and nothing changes (00_scope R12, 60_exceptions R138, R140).
-/

namespace Sys2Proof.Machine

/-- Run a word that has been fetched. -/
def runWord (w : PortWord) (s : State) : Host.Outcome State Fault Refusal :=
  match decode w with
  | .ok i => exec i s
  | .error _ => .refused .undecodableWord

/-- One step. An instance outside 00_scope R8 to R10 is refused (92_eei_decisions D18, 93_implementation_defined U22). -/
def step (s : State) : Host.Outcome State Fault Refusal :=
  if validConfig s.cfg then
    match fetch s with
    | .word w t => runWord w t
    | .action e t => envAct e t
    | .nothing => .next s
  else .refused .badInstance

/-- The state with a table word placed so that the very next step runs it (log 5). -/
def State.withFetchWord (s : State) (nbits w : Nat) : State :=
  match tablePortWord nbits w with
  | some p => placeWord p s
  | none => s

end Sys2Proof.Machine
end

