-- ==== Sys2Proof/Safety.lean ====
section
/-!
DEFINITION. Safety.lean: what counts as a good state and a safe run, in the terms the statements use
(41_state_machine R104, 60_exceptions R135, R156, 70_reset_and_hazards section 3).
-/

namespace Sys2Proof.Machine

/-- 41_state_machine R104 (a), (b): the cursor's meaning in `Active` and in `Resetting`. -/
def cursorInRange (s : State) : Prop :=
  match s.state with
  | .idle => True
  | .active => 2 ≤ s.cfg.n ∧ 1 ≤ s.cursor.toNat ∧ s.cursor.toNat ≤ s.cfg.n - 1
  | .resetting => s.cursor.toNat ≤ s.cfg.resetCycles - 1

/-- 60_exceptions R135: with prompt delivery at most one signal waits. -/
def promptPending (s : State) : Prop := s.cfg.delivery = .prompt → s.pend.length ≤ 1

/-- The Pixel Store is canonical and inside its `3 × N` bytes (20_memory R41). -/
def storeGood (s : State) : Prop := s.pix.wf = true ∧ memWithin (3 * s.cfg.n) s.pix = true

/-- The invariant of the machine: an instance the spec admits, 41_state_machine R104, 60_exceptions R135 and the
store's form. -/
structure GoodState (s : State) : Prop where
  valid : validConfig s.cfg = true
  cursor : cursorInRange s
  store : storeGood s
  pending : promptPending s

/-- One of the three codes any rule writes into the queue (10_state R28). -/
def isQueueCode (c : Config) (d : DutyCode) : Prop := d = c.zeroCode ∨ d = c.oneCode ∨ d = offCode

/-- Every element of the queue holds one of the three codes (41_state_machine R104 (c)). -/
def queueCodes (s : State) : Prop := ∀ i : Fin 48, isQueueCode s.cfg s.q[i]

/-- A trace is finished (60_exceptions R156): nothing left to present, `Idle`, engine stopped, nothing pending. -/
def finished (s : State) : Prop :=
  s.trace = [] ∧ s.hostCmd = none ∧ s.xc = .none ∧ s.rsp = none ∧ s.state = .idle ∧ s.xeMode = .stopped ∧ s.pend = []

/-- The block's own state and the store are the same (10_state R25). -/
def sameBlock (s t : State) : Prop :=
  t.cfg = s.cfg ∧ t.state = s.state ∧ t.cursor = s.cursor ∧ t.q = s.q ∧ t.pix = s.pix

/-- The environment's state is the same (10_state R33), and so are the logs and what is still to be presented. -/
def sameEnvironment (s t : State) : Prop :=
  t.cfg = s.cfg ∧ t.xeMode = s.xeMode ∧ t.rp = s.rp ∧ t.pend = s.pend ∧ t.line = s.line ∧ t.wave = s.wave ∧
    t.lowRun = s.lowRun ∧ t.dataSeen = s.dataSeen ∧ t.periods = s.periods ∧ t.delay = s.delay ∧
    t.draws = s.draws ∧ t.xcLog = s.xcLog ∧ t.rspLog = s.rspLog ∧
    t.hostCmd = s.hostCmd ∧ t.trace = s.trace

/-- No hazard is recorded between the two states. -/
def noNewHazard (s t : State) : Prop := t.torn = s.torn ∧ t.hazards = s.hazards

/-- The slot `sl` holds the 24 codes `f 0, ..., f 23`. -/
def slotHolds (q : Vector DutyCode 48) (sl : Slot) (f : Nat → DutyCode) : Prop :=
  ∀ i : Fin 48, inSlot sl i.val = true → q[i] = f (i.val - slotBase sl)

/-- The two queues agree outside the slot `sl`. -/
def sameOutside (sl : Slot) (q q' : Vector DutyCode 48) : Prop :=
  ∀ i : Fin 48, inSlot sl i.val = false → q'[i] = q[i]

/-- The progress signal that reports a slot drained (30_encoding R65). -/
def signalOf : Slot → Instr
  | .slot0 => .half
  | .slot1 => .full

/-- A recognised progress signal refills a slot here: `Active`, or `Resetting` with reset cycles left
(41_state_machine R92, R93, R94). -/
def refills (s : State) : Prop :=
  s.state = .active ∨ (s.state = .resetting ∧ s.cursor.toNat < s.cfg.resetCycles - 1)

/-- The events the block accepts: the HOST and PROG rows (00_scope R12, 30_encoding R75). -/
def isBlockEvent : Instr → Bool
  | .init => true
  | .update => true
  | .status => true
  | .abort => true
  | .reservedHost _ => true
  | .half => true
  | .full => true
  | .unrec _ => true
  | .xcNone => false
  | .startCircular => false
  | .stopAfterHalf => false
  | .stopNow => false
  | .rspOk _ => false
  | .rspBusy _ => false
  | .rspNotRunning _ => false

/-- The kind of the progress signal that reports a slot drained (30_encoding R65). -/
def kindOf : Slot → ProgressKind
  | .slot0 => .half
  | .slot1 => .full

/-- A refill of the slot is a torn write here: the engine is not stopped, and its pointer is inside the slot
(70_reset_and_hazards R180) or the signal came a frame period late or more (R181). -/
def tornHere (sl : Slot) (s : State) : Prop :=
  s.xeMode ≠ .stopped ∧
    ((slotBase sl ≤ s.rp.val ∧ s.rp.val ≤ slotBase sl + 23) ∨ ∃ d, s.delay = some d ∧ 24 ≤ d)

/-- `k` carrier periods, one after another (60_exceptions R148). -/
def ticks : Nat → State → State
  | 0, s => s
  | k + 1, s => ticks k (xeTick s)

/-- The stream of a whole cycle: every pixel's frame, then the reset blocks (41_state_machine R106). -/
def cycleStream (s : State) : List DutyCode :=
  ((List.range s.cfg.n).flatMap fun i => (List.range frameLen).map (frameCode s.cfg (pixelAt s.pix i))) ++
    List.replicate (frameLen * s.cfg.resetCycles) offCode

/-- The events of a list, run one after another. -/
def runEvents : List Instr → State → Out
  | [], s => .next s
  | i :: is, s =>
    match exec i s with
    | .next t => runEvents is t
    | .fault r => .fault r
    | .refused r => .refused r

end Sys2Proof.Machine
end

