-- ==== Sys2Proof/Certificates/Slice0/Obligations.lean ====
section
/-!
DEFINITION. Certificates/Slice0/Obligations.lean: the statements for the provers. They are about every state and every
instance (the parameters stand in the state); a premise `GoodState s` is the invariant of Safety.lean, which
`StepKeepsInvariant` and `ResetMeetsInvariant` are about.
-/

open Sys2Proof Sys2Proof.Machine

/-! ### Encoding -/

/-- Decoding an encoded well-formed event gives it back, every field at every value (30_encoding R75). -/
def Obligations.DecodeEncodeAgree : Prop :=
  ∀ i : Instr, i.wellFormed = true → decode (encode i) = .ok i

/-- Every port word has at most one meaning, a well-formed one, and that meaning's word is it. That a response word whose
code or value R64 never produces has no meaning is the model's (log 16, DEDUCED): R64 says only what is produced. -/
def Obligations.EncodeDecodeAgree : Prop :=
  ∀ (w : PortWord) (i : Instr), decode w = .ok i → i.wellFormed = true ∧ encode i = w

/-- The words of the spec's code tables, written out (30_encoding R62, R64, R65, R66). The last clause is the model's
(log 16, DEDUCED): R64 says only that the code `0b11` is never produced, and the decoder rejects it. -/
def Obligations.SpecWordsDecode : Prop :=
  decode (.host 0b000#3) = .ok .init ∧ decode (.host 0b001#3) = .ok .update ∧
  decode (.host 0b010#3) = .ok .status ∧ decode (.host 0b011#3) = .ok .abort ∧
  decode (.host 0b110#3) = .ok (.reservedHost 0b10#2) ∧
  decode (.prog 0b00#2) = .ok .half ∧ decode (.prog 0b01#2) = .ok .full ∧
  decode (.prog 0b11#2) = .ok (.unrec 0b1#1) ∧
  decode (.xctl 0b00#2) = .ok .xcNone ∧ decode (.xctl 0b01#2) = .ok .startCircular ∧
  decode (.xctl 0b10#2) = .ok .stopAfterHalf ∧ decode (.xctl 0b11#2) = .ok .stopNow ∧
  decode (.rsp 0b01#2 0) = .ok (.rspBusy 0) ∧ decode (.rsp 0b11#2 0) = .error .rspCodeNeverProduced

/-- 30_encoding R63: decoding a host command word is total: one of the four commands, or reserved. -/
def Obligations.HostDecodingTotal : Prop :=
  ∀ cmd : BitVec 3, ∃ i, decode (.host cmd) = .ok i ∧
    (i = .init ∨ i = .update ∨ i = .status ∨ i = .abort ∨ ∃ low, i = .reservedHost low)

/-! ### A step -/

/-- When the next word decodes to an event, the step is that event's meaning, run on the state that no longer holds
the word (60_exceptions R138). How words come to be fetched is the model's (log 5). -/
def Obligations.StepRunsDecodedInstruction : Prop :=
  ∀ (s t : State) (w : PortWord) (i : Instr), validConfig s.cfg = true → fetch s = .word w t → decode w = .ok i →
    step s = exec i t

/-- Otherwise the environment acts (00_scope R12). That nothing changes when nothing is left to be presented is log 12
(DEDUCED). The refusal takes in the instances D18 and U22 refuse (log 16, DEDUCED) and the two bounds that are the
model's own (log 2, DESIGN CHOICE): `RESET_CYCLES` fits the cursor, the largest estimate fits the result. -/
def Obligations.StepOtherwise : Prop :=
  (∀ (s t : State) (e : EnvAction), validConfig s.cfg = true → fetch s = .action e t → step s = envAct e t) ∧
  (∀ s : State, validConfig s.cfg = true → fetch s = .nothing → step s = .next s) ∧
  (∀ s : State, validConfig s.cfg = false → step s = .refused .badInstance)

/-- 60_exceptions R136: of a command and a signal presented together the signal is processed first, and the command,
which waits on its port, before the rest of the trace. The signal is delivered as `DeliveryInOrder` says. That the
command waits on a port is the model's (log 5). -/
def Obligations.SignalBeforeCommand : Prop :=
  (∀ (s : State) (cmd : BitVec 3) (pk : BitVec 2) (rest : List Arrival),
    s.xc = .none → s.rsp = none → (s.cfg.delivery = .prompt → s.pend = []) → s.hostCmd = none →
    s.trace = .together cmd pk :: rest →
    fetch s = .word (.prog pk) (deliver pk { s with trace := rest, hostCmd := some cmd })) ∧
  (∀ (s : State) (cmd : BitVec 3),
    s.xc = .none → s.rsp = none → (s.cfg.delivery = .prompt → s.pend = []) → s.hostCmd = some cmd →
    fetch s = .word (.host cmd) { s with hostCmd := none })

/-- 60_exceptions R135: a progress word of the trace that is the oldest pending signal delivers it and removes it from
`pend`. That any other one is an extra signal, which leaves `pend` alone, is the model's (R153, log 17), and so is the
delay it notes (log 20). -/
def Obligations.DeliveryInOrder : Prop :=
  (∀ (s : State) (pk : BitVec 2) (rest : List Arrival),
    s.xc = .none → s.rsp = none → (s.cfg.delivery = .prompt → s.pend = []) → s.hostCmd = none →
    s.trace = .progress pk :: rest → fetch s = .word (.prog pk) (deliver pk { s with trace := rest })) ∧
  (∀ (s : State) (k : Pending) (ks : List Pending), s.pend = k :: ks →
    deliver (progressWord k.kind) s = { s with pend := ks, delay := some (s.periods - k.raisedAt) }) ∧
  (∀ (s : State) (pk : BitVec 2), (∀ k ks, s.pend = k :: ks → progressWord k.kind ≠ pk) →
    deliver pk s = { s with delay := none })

/-- With nothing on the ports, no command waiting and, with prompt delivery, no signal pending, the trace is taken in its
order (30_encoding R73, log 5): a lone host command, an action of the environment, or nothing. -/
def Obligations.TraceGoesInOrder : Prop :=
  ∀ s : State, s.xc = .none → s.rsp = none → (s.cfg.delivery = .prompt → s.pend = []) → s.hostCmd = none →
    (∀ cmd rest, s.trace = .host cmd :: rest → fetch s = .word (.host cmd) { s with trace := rest }) ∧
    (∀ e rest, s.trace = .env e :: rest → fetch s = .action e { s with trace := rest }) ∧
    (s.trace = [] → fetch s = .nothing)

/-- What an event emits is received before anything else happens, and with prompt delivery a pending signal goes
before any command and any carrier period (60_exceptions R135, R138). The order of the ports is the model's (log 5), and
so is the delay noted (log 20). -/
def Obligations.PortsGoFirst : Prop :=
  (∀ s : State, s.xc ≠ .none → fetch s = .word (.xctl (xferWord s.xc)) { s with xc := .none }) ∧
  (∀ (s : State) (r : Response), s.xc = .none → s.rsp = some r →
    fetch s = .word (.rsp (resultWord r.code) r.val) { s with rsp := none }) ∧
  (∀ (s : State) (k : Pending) (ks : List Pending), s.xc = .none → s.rsp = none →
    s.cfg.delivery = .prompt → s.pend = k :: ks → 
    fetch s = .word (.prog (progressWord k.kind)) { s with pend := ks, delay := some (s.periods - k.raisedAt) })

/-! ### The HOST family -/

/-- `INIT` (42_control_surface R110, R121), in every state: every pixel zero, `Idle`, `Ok`; `cursor`, `Q` and the
environment unchanged, no command emitted. -/
def Obligations.InitZeroesStore : Prop :=
  ∀ s : State, storeGood s → ∃ t, exec .init s = .next t ∧ t.state = .idle ∧
    t.rsp = some { code := .ok, val := 0 } ∧ t.xc = .none ∧
    (∀ i, i < s.cfg.n → pixRead t i = some { r := 0, g := 0, b := 0 }) ∧
    (∀ a, 3 * s.cfg.n ≤ a → byteAt t.pix a = byteAt s.pix a) ∧
    t.cursor = s.cursor ∧ t.q = s.q ∧ sameEnvironment s t ∧ noNewHazard s t

/-- `UPDATE` in `Idle` (41_state_machine R90): with one pixel its frame and a reset block, `Resetting`; with more the
first two frames, `Active`; then `START_CIRCULAR` and `Ok`. -/
def Obligations.UpdateStartsCycle : Prop :=
  ∀ s : State, validConfig s.cfg = true → s.state = .idle →
    ∃ t, exec .update s = .next t ∧
      slotHolds t.q .slot0 (frameCode s.cfg (pixelAt s.pix 0)) ∧
      (s.cfg.n = 1 → t.state = .resetting ∧ t.cursor = 0 ∧ slotHolds t.q .slot1 (fun _ => offCode)) ∧
      (2 ≤ s.cfg.n → t.state = .active ∧ t.cursor = 1 ∧
        slotHolds t.q .slot1 (frameCode s.cfg (pixelAt s.pix 1))) ∧
      t.xc = .startCircular ∧ t.rsp = some { code := .ok, val := 0 } ∧ t.pix = s.pix ∧ sameEnvironment s t

/-- `UPDATE` when not `Idle` (41_state_machine R91, 60_exceptions R131): `Busy`, and no effect. -/
def Obligations.UpdateBusy : Prop :=
  ∀ s : State, s.state ≠ .idle →
    exec .update s = .next { s with xc := .none, rsp := some { code := .busy, val := 0 } }

/-- `STATUS` (42_control_surface R112): 0 in `Idle`, else minus the estimate; nothing written but the ports. The
estimate's formula is R113's, which the spec calls its own (log 10). -/
def Obligations.StatusAnswers : Prop :=
  ∀ s : State,
    (s.state = .idle →
      exec .status s = .next { s with xc := .none, rsp := some { code := .ok, val := 0 } }) ∧
    (s.state = .active →
      exec .status s = .next { s with
        xc := .none
        rsp := some { code := .ok
                      val := BitVec.ofInt 32 (-((max 1 ((s.cfg.n - s.cursor.toNat + s.cfg.resetCycles) *
                        (24 * s.cfg.carrierNs) / 1000) : Nat) : Int)) } }) ∧
    (s.state = .resetting →
      exec .status s = .next { s with
        xc := .none
        rsp := some { code := .ok
                      val := BitVec.ofInt 32 (-((max 1 ((s.cfg.resetCycles - s.cursor.toNat) *
                        (24 * s.cfg.carrierNs) / 1000) : Nat) : Int)) } })

/-- 42_control_surface R114, R115 (a), (b): the result is 0 exactly in `Idle`, otherwise at most -1, and the
estimate fits 32 bits, for the formula of R113 (log 10). -/
def Obligations.StatusSign : Prop :=
  ∀ s : State, GoodState s → ∃ t v, exec .status s = .next t ∧ t.rsp = some { code := .ok, val := v } ∧
    (v = 0 ↔ s.state = .idle) ∧ (s.state ≠ .idle → v.toInt = -((max 1 (estUs s) : Nat) : Int) ∧ v.toInt ≤ -1)

/-- 42_control_surface R115 (c), 41_state_machine R103, both derived in the spec: each progress signal lowers the count of remaining signals by exactly one. -/
def Obligations.SignalLowersRemaining : Prop :=
  ∀ (s : State) (sl : Slot), GoodState s → s.state ≠ .idle →
    ∃ t, exec (signalOf sl) s = .next t ∧ remaining t + 1 = remaining s

/-- `ABORT` (42_control_surface R116, 41_state_machine R98). -/
def Obligations.AbortStopsOrReports : Prop :=
  ∀ s : State,
    (s.state ≠ .idle → exec .abort s =
      .next { s with state := .idle, xc := .stopNow, rsp := some { code := .ok, val := 0 } }) ∧
    (s.state = .idle → exec .abort s = .next { s with xc := .none, rsp := some { code := .notRunning, val := 0 } })

/-- 30_encoding R71: a reserved host command is refused. -/
def Obligations.ReservedCommandRefused : Prop :=
  ∀ (low : BitVec 2) (s : State),
    decode (.host (0b1#1 ++ low)) = .ok (.reservedHost low) ∧
    exec (.reservedHost low) s = .refused .reservedHostCommand

/-! ### The PROG family -/

/-- `HALF`, `FULL` in `Active` with pixels left (41_state_machine R92): the next pixel goes into the named slot. -/
def Obligations.SignalFeedsNextPixel : Prop :=
  ∀ (s : State) (sl : Slot), validConfig s.cfg = true → s.state = .active → s.cursor.toNat + 1 < s.cfg.n →
    ∃ t, exec (signalOf sl) s = .next t ∧ t.state = .active ∧ t.cursor.toNat = s.cursor.toNat + 1 ∧
      slotHolds t.q sl (frameCode s.cfg (pixelAt s.pix (s.cursor.toNat + 1))) ∧ sameOutside sl s.q t.q ∧
      t.xc = .none ∧ t.rsp = s.rsp ∧ t.pix = s.pix ∧ sameEnvironment s t

/-- `HALF`, `FULL` in `Active` with the string streamed (41_state_machine R93): the first reset block. -/
def Obligations.SignalBeginsLatch : Prop :=
  ∀ (s : State) (sl : Slot), s.state = .active → ¬ s.cursor.toNat + 1 < s.cfg.n →
    ∃ t, exec (signalOf sl) s = .next t ∧ t.state = .resetting ∧ t.cursor = 0 ∧
      slotHolds t.q sl (fun _ => offCode) ∧ sameOutside sl s.q t.q ∧
      t.xc = .none ∧ t.rsp = s.rsp ∧ t.pix = s.pix ∧ sameEnvironment s t

/-- `HALF`, `FULL` in `Resetting` with reset cycles left (41_state_machine R94): another reset block. -/
def Obligations.SignalContinuesLatch : Prop :=
  ∀ (s : State) (sl : Slot), validConfig s.cfg = true → s.state = .resetting →
    s.cursor.toNat < s.cfg.resetCycles - 1 →
    ∃ t, exec (signalOf sl) s = .next t ∧ t.state = .resetting ∧ t.cursor.toNat = s.cursor.toNat + 1 ∧
      slotHolds t.q sl (fun _ => offCode) ∧ sameOutside sl s.q t.q ∧
      t.xc = .none ∧ t.rsp = s.rsp ∧ t.pix = s.pix ∧ sameEnvironment s t

/-- `HALF`, `FULL` in `Resetting` with the last reset cycle queued (41_state_machine R95): `Idle` and
`STOP_AFTER_HALF`, and nothing else. -/
def Obligations.SignalEndsCycle : Prop :=
  ∀ (s : State) (sl : Slot), s.state = .resetting → ¬ s.cursor.toNat < s.cfg.resetCycles - 1 →
    exec (signalOf sl) s = .next { s with state := .idle, xc := .stopAfterHalf }

/-- `HALF`, `FULL` in `Idle` (41_state_machine R96): `STOP_NOW`, and nothing else. -/
def Obligations.SignalInIdleStops : Prop :=
  ∀ (s : State) (sl : Slot), s.state = .idle → exec (signalOf sl) s = .next { s with xc := .stopNow }

/-- An unrecognised progress kind, in every state (42_control_surface R118, 41_state_machine R99). -/
def Obligations.UnrecognisedForcesIdle : Prop :=
  ∀ (s : State) (k : BitVec 1), exec (.unrec k) s = .next { s with state := .idle, xc := .stopNow }

/-! ### The XCTL and RSP families -/

/-- `START_CIRCULAR` is received, in every mode (60_exceptions R147, R152): the engine runs from element 0 with an
empty record of codes. An engine that has not stopped restarts, and `ShortLatch` is recorded if fewer than 50000 ns of
continuous low preceded (R152). For a stopped engine the record needs that data may have been on the line; that, and the
count of the low, are the model's (log 8), and so is that the command is appended to `xcLog` (log 6). -/
def Obligations.StartCircularRestarts : Prop :=
  ∀ s : State, ∃ t, exec .startCircular s = .next t ∧ t.xeMode = .running ∧ t.rp = 0 ∧ t.wave = [] ∧
    t.pend = s.pend ∧ t.line = s.line ∧ t.lowRun = s.lowRun ∧ t.xcLog = s.xcLog ++ [.startCircular] ∧
    sameBlock s t ∧ t.xc = s.xc ∧ t.rsp = s.rsp ∧ t.hostCmd = s.hostCmd ∧ t.trace = s.trace ∧
    t.dataSeen = s.dataSeen ∧ t.rspLog = s.rspLog ∧ t.draws = s.draws ∧
    t.periods = s.periods ∧ t.delay = s.delay ∧ t.torn = s.torn ∧
    t.hazards = s.hazards ++
      (if (s.dataSeen = true ∨ s.xeMode ≠ .stopped) ∧ s.lowRun * s.cfg.carrierNs < 50000 then [.shortLatch] else [])

/-- `STOP_AFTER_HALF` is received (60_exceptions R150): a running engine becomes stop-pending, any other is as
before; nothing else changes but the model's list of received commands (log 6). -/
def Obligations.StopAfterHalfIsGraceful : Prop :=
  ∀ s : State, exec .stopAfterHalf s = .next { s with
    xeMode := (if s.xeMode = .running then .stopPending else s.xeMode)
    xcLog := s.xcLog ++ [.stopAfterHalf] }

/-- `STOP_NOW` is received, in every mode (60_exceptions R151): the engine is stopped; `rp`, the pending signals and
everything of the block stay. Nothing is said of the line (a free value, log 9). `xcLog` is the model's
(log 6); so is that no low is counted yet and that the line may have carried anything (log 8), from which `ShortLatch` of
70_reset_and_hazards R183 follows. -/
def Obligations.StopNowStops : Prop :=
  ∀ s : State, ∃ t, exec .stopNow s = .next t ∧ t.xeMode = .stopped ∧ t.rp = s.rp ∧ t.pend = s.pend ∧
    t.wave = s.wave ∧ t.xcLog = s.xcLog ++ [.stopNow] ∧ t.rspLog = s.rspLog ∧
    t.lowRun = 0 ∧ t.dataSeen = true ∧ t.periods = s.periods ∧ t.delay = s.delay ∧ sameBlock s t ∧
    t.xc = s.xc ∧ t.rsp = s.rsp ∧ t.hostCmd = s.hostCmd ∧ t.trace = s.trace ∧ noNewHazard s t

/-- `NONE`: no instruction to the engine (30_encoding R66). -/
def Obligations.NoneDoesNothing : Prop := ∀ s : State, exec .xcNone s = .next s

/-- A response is received by the host and touches nothing else (30_encoding R64; the host's log is the model's,
log 6). -/
def Obligations.ResponsesReachHost : Prop :=
  ∀ (s : State) (v : RspValue),
    exec (.rspOk v) s = .next { s with rspLog := s.rspLog ++ [{ code := .ok, val := v }] } ∧
    exec (.rspBusy v) s = .next { s with rspLog := s.rspLog ++ [{ code := .busy, val := v }] } ∧
    exec (.rspNotRunning v) s = .next { s with rspLog := s.rspLog ++ [{ code := .notRunning, val := v }] }

/-! ### The environment -/

/-- `XE-TICK` of an engine that is not stopped (60_exceptions R148, R149): one code is copied, `Q[rp]` unless the cycle is
torn (then a free value, log 7, log 9); the pointer advances with wrap; a signal is raised or the engine stops exactly
where a half ends. The line carries the code's period (`PeriodShape`), in a stop-pending half too, and is low after the
stop (R155, log 11); the count of low periods and whether data was seen are the model's (log 8), and so is the count of
carrier periods with which a signal is stamped (log 20). -/
def Obligations.TickCopiesOneCode : Prop :=
  ∀ s : State, s.xeMode ≠ .stopped →
    ∃ t d, envAct .tick s = .next t ∧ (s.torn = false → d = s.q[s.rp]) ∧ t.wave = s.wave ++ [d] ∧
      t.rp.val = (s.rp.val + 1) % 48 ∧ sameBlock s t ∧ noNewHazard s t ∧ t.xc = s.xc ∧ t.rsp = s.rsp ∧
      t.hostCmd = s.hostCmd ∧ t.trace = s.trace ∧ t.xcLog = s.xcLog ∧ t.rspLog = s.rspLog ∧
      (s.rp.val ≠ 23 → s.rp.val ≠ 47 → t.pend = s.pend ∧ t.xeMode = s.xeMode) ∧
      (s.rp.val = 23 → s.xeMode = .running → 
        t.pend = s.pend ++ [{ kind := .half, raisedAt := s.periods + 1 }] ∧ t.xeMode = .running) ∧
      (s.rp.val = 47 → s.xeMode = .running → 
        t.pend = s.pend ++ [{ kind := .full, raisedAt := s.periods + 1 }] ∧ t.xeMode = .running) ∧
      (s.rp.val = 23 ∨ s.rp.val = 47 → s.xeMode = .stopPending →
        t.pend = s.pend ∧ t.xeMode = .stopped ∧ t.line = .low) ∧
      (t.xeMode ≠ .stopped → t.line = (emitPeriod d s).line) ∧
      t.lowRun = (emitPeriod d s).lowRun ∧ t.dataSeen = (emitPeriod d s).dataSeen ∧
      t.periods = s.periods + 1 ∧ t.delay = s.delay

/-- `XE-TICK` is not enabled while the engine is stopped (60_exceptions R148). -/
def Obligations.TickNeedsRunningEngine : Prop :=
  ∀ s : State, s.xeMode = .stopped → envAct .tick s = .next s

/-- The line is held low for `k` carrier periods while the engine is stopped (70_reset_and_hazards R183): it is low, and
the count of low periods grows by `k` (the count is the model's, log 8). With the engine not stopped nothing changes
(log 12). -/
def Obligations.HoldLowCounts : Prop :=
  ∀ (s : State) (k : Nat),
    (s.xeMode = .stopped → envAct (.holdLow k) s = .next { s with line := .low, lowRun := s.lowRun + k }) ∧
    (s.xeMode ≠ .stopped → envAct (.holdLow k) s = .next s)

/-- One carrier period (60_exceptions R154): `PERIOD_TICKS` timer ticks, high for the first `min(c, PERIOD_TICKS)`;
the line is left at the last tick's level; the off code's period is all low (the shape is log 11). The count of low
periods, and that data was seen exactly from a period with a high level on, are the model's (log 8). -/
def Obligations.PeriodShape : Prop :=
  ∀ (s : State) (d : DutyCode), 0 < s.cfg.periodTicks →
    (periodLevels s.cfg d).length = s.cfg.periodTicks ∧
    (∀ j, j < s.cfg.periodTicks →
      (periodLevels s.cfg d)[j]? = some (if j < min d.toNat s.cfg.periodTicks then .high else .low)) ∧
    (periodLevels s.cfg d).getLast? = some (emitPeriod d s).line ∧
    ((emitPeriod d s).lowRun = if ∀ l ∈ periodLevels s.cfg d, l = .low then s.lowRun + 1 else 0) ∧
    ((emitPeriod d s).dataSeen = true ↔ s.dataSeen = true ∨ ∃ l ∈ periodLevels s.cfg d, l = .high) ∧
    (∀ l ∈ periodLevels s.cfg offCode, l = .low)

/-- Hardware reset as an event, in every state (70_reset_and_hazards R170): `Idle`, no command, no response, the Pixel
Store untouched. That the engine's mode, `rp`, `line`, `wave` and `pend` stay, and a waiting
command and the records with them, is the model's reading (log 13, DEDUCED):
R170 says only that a reset in mid-cycle leaves the engine running, and R34's table is of power-on. Nothing is said of
`cursor` and `Q` (free values, log 9, log 21). -/
def Obligations.HardwareResetForcesIdle : Prop :=
  ∀ s : State, ∃ t, envAct .reset s = .next t ∧ t.state = .idle ∧ t.xc = .none ∧ t.rsp = none ∧ t.pix = s.pix ∧
    t.cfg = s.cfg ∧ t.xeMode = s.xeMode ∧ t.rp = s.rp ∧ t.pend = s.pend ∧ t.line = s.line ∧ t.wave = s.wave ∧
    t.lowRun = s.lowRun ∧ t.dataSeen = s.dataSeen ∧ t.xcLog = s.xcLog ∧ t.rspLog = s.rspLog ∧ noNewHazard s t ∧
    t.periods = s.periods ∧ t.delay = s.delay ∧ t.hostCmd = s.hostCmd ∧ t.trace = s.trace

/-- After power-on reset (10_state R34): `Idle`, no command emitted, no response pending, the engine stopped, nothing
pending. Nothing is said of what R34 leaves unspecified. -/
def Obligations.ResetLeavesIdle : Prop :=
  ∀ c : Config, (State.resetOf c).state = .idle ∧ (State.resetOf c).xc = .none ∧ (State.resetOf c).rsp = none ∧
    (State.resetOf c).xeMode = .stopped ∧ (State.resetOf c).pend = []

/-- A host write of a pixel (20_memory R42, R43): it reads back, every other pixel is as before, nothing else changes. That
an index outside `0 .. N - 1` faults is the model's (log 16, DEDUCED): R44 says only that no rule of the block reaches
one. -/
def Obligations.PixelWriteThenRead : Prop :=
  ∀ (s : State) (i : Nat) (p : Pixel), storeGood s →
    (i < s.cfg.n → ∃ t, envAct (.pixWrite i p) s = .next t ∧
      (∀ j, pixRead t j = if j = i then some p else pixRead s j) ∧
      t.state = s.state ∧ t.cursor = s.cursor ∧ t.q = s.q ∧ t.xc = s.xc ∧ t.rsp = s.rsp ∧ sameEnvironment s t ∧
      noNewHazard s t) ∧
    (s.cfg.n ≤ i → envAct (.pixWrite i p) s = .fault .pixelOutOfRange)

/-! ### The encoders -/

/-- The frame of the documented wire order (40_encoders R82, 30_encoding R68): element `k` of the frame the encoder
writes carries bit `23 - k` of `(g << 16) | (r << 8) | b`. -/
def Obligations.FrameFollowsWireOrder : Prop :=
  ∀ (c : Config) (p : Pixel), c.offG = 0 → c.offR = 8 → c.offB = 16 →
    (List.range 24).map (frameCode c p) = frame c p ∧
    ∀ k, k < 24 → frameCode c p k =
      if (p.g.toNat * 65536 + p.r.toNat * 256 + p.b.toNat).testBit (23 - k) then c.oneCode else c.zeroCode

/-- 40_encoders R82: two different pixels give two different frames. -/
def Obligations.FrameInjective : Prop :=
  ∀ (c : Config) (p p' : Pixel), calibrated c = true → frame c p = frame c p' → p = p'

/-- Both encoders write exactly one slot, whatever it held, and leave the other (40_encoders R80, R83). -/
def Obligations.EncodersWriteOneSlot : Prop :=
  ∀ (s : State) (sl : Slot) (p : Pixel), offsetsPermute s.cfg = true →
    slotHolds (encodeFrame p sl s).q sl (frameCode s.cfg p) ∧ sameOutside sl s.q (encodeFrame p sl s).q ∧
    slotHolds (encodeReset sl s).q sl (fun _ => offCode) ∧ sameOutside sl s.q (encodeReset sl s).q

/-! ### Hazards -/

/-- 70_reset_and_hazards R180, R181: a refill (41_state_machine R92, R93, R94) is recorded as a torn write exactly when
the engine is not stopped and its pointer is inside the slot written (R180), or the signal came 24 or more carrier periods
after it was raised (R181; `tornHere`). The record is the model's bookkeeping (log 7), and so is the delay (log 20). -/
def Obligations.TornWriteRecorded : Prop :=
  ∀ (s : State) (sl : Slot), validConfig s.cfg = true → refills s →
    ∃ t, exec (signalOf sl) s = .next t ∧ (t.torn = true ↔ s.torn = true ∨ tornHere sl s) ∧
      (tornHere sl s → t.hazards = s.hazards ++ [.tornWrite]) ∧ (¬ tornHere sl s → t.hazards = s.hazards)

/-- `UPDATE` with the engine stopped is no torn write and begins an untorn cycle (70_reset_and_hazards R180; the record is
the model's, log 7). It says nothing of `ShortLatch` (R183): that is recorded when `START_CIRCULAR` is received, a step
later (log 1, log 8; `StartCircularRestarts`). -/
def Obligations.UpdateAtRestIsClean : Prop :=
  ∀ s : State, validConfig s.cfg = true → s.state = .idle → s.xeMode = .stopped →
    ∃ t, exec .update s = .next t ∧ t.torn = false ∧ t.hazards = s.hazards

/-- 70_reset_and_hazards R181: a refill (41_state_machine R92, R93, R94) by the signal the engine has just raised for the
slot it has left, delivered `d` carrier periods later, meets the deadline exactly when `d < 24`; at `24 ≤ d`, however
late, it is a torn write. Derived in the spec; the record is the model's (log 7, log 20). -/
def Obligations.RefillDeadline : Prop :=
  ∀ (s : State) (sl : Slot) (ks : List Pending) (d : Nat), validConfig s.cfg = true → refills s →
    s.xeMode = .running → s.torn = false → s.rp.val = (slotBase sl + 24) % 48 →
    s.pend = { kind := kindOf sl, raisedAt := s.periods } :: ks →
    ∃ t, exec (signalOf sl) (deliver (progressWord (kindOf sl)) (ticks d s)) = .next t ∧
      (t.torn = true ↔ 24 ≤ d) ∧
      t.hazards = s.hazards ++ (if 24 ≤ d then [.tornWrite] else [])

/-- 70_reset_and_hazards R184 (a), (b), derived in the spec, with the model's record (log 7): an `UPDATE` during the final drain is accepted, is a torn write, and restarts
an engine that has not stopped. -/
def Obligations.UpdateInFinalDrain : Prop :=
  ∀ s : State, validConfig s.cfg = true → s.state = .idle → s.xeMode = .stopPending →
    ∃ t u, exec .update s = .next t ∧ t.rsp = some { code := .ok, val := 0 } ∧ t.xc = .startCircular ∧
      t.torn = true ∧ t.hazards = s.hazards ++ [.tornWrite] ∧ t.xeMode = .stopPending ∧
      exec .startCircular { t with xc := .none } = .next u ∧ u.xeMode = .running ∧ u.rp = 0

/-! ### Whole-machine rules -/

/-- 41_state_machine R100: the only way out of `Idle` is an `UPDATE`; nothing goes from `Resetting` to `Active`;
`Active` is entered only from `Idle`. Derived in the spec. -/
def Obligations.LifecycleTransitions : Prop :=
  ∀ s t : State, step s = .next t →
    (s.state = .idle → t.state ≠ .idle → ∃ u, fetch s = .word (.host 0b001#3) u) ∧
    (s.state = .resetting → t.state ≠ .active) ∧
    (t.state = .active → s.state = .active ∨ s.state = .idle)

/-- 20_memory R44: for an admitted instance no event faults, and only a reserved host command is refused. -/
def Obligations.OnlyReservedStops : Prop :=
  ∀ (i : Instr) (s : State), validConfig s.cfg = true →
    (∃ t, exec i s = .next t) ∨ (∃ low, i = .reservedHost low ∧ exec i s = .refused .reservedHostCommand)

/-- 10_state R32: the block's events touch nothing of the environment, and what the engine and the host receive
touches nothing of the block. That a reception is a step of its own is the model's (log 1). -/
def Obligations.PortsSeparateAgents : Prop :=
  ∀ (i : Instr) (s t : State), exec i s = .next t →
    (isBlockEvent i = true → sameEnvironment s t) ∧
    (isBlockEvent i = false → sameBlock s t ∧ t.xc = s.xc ∧ t.rsp = s.rsp ∧ t.hostCmd = s.hostCmd ∧ t.trace = s.trace)

/-- 20_memory R40: of all events only `INIT` writes the Pixel Store. -/
def Obligations.OnlyInitWritesStore : Prop :=
  ∀ (i : Instr) (s t : State), exec i s = .next t → i ≠ .init → t.pix = s.pix

/-- 10_state R28, 41_state_machine R104 (c), derived in the spec: the queue holds only the three codes. -/
def Obligations.QueueHoldsOnlyCodes : Prop :=
  ∀ (i : Instr) (s t : State), offsetsPermute s.cfg = true → queueCodes s → exec i s = .next t → queueCodes t

/-- 10_state R23, R24: no step changes the instance's parameters. -/
def Obligations.ParametersNeverChange : Prop :=
  ∀ s t : State, step s = .next t → t.cfg = s.cfg

/-- 41_state_machine R103: from an accepted `UPDATE` the block is back in `Idle` at exactly the
`(N + RESET_CYCLES - 1)`-th recognised signal, whatever their kinds. Derived in the spec. -/
def Obligations.CycleLength : Prop :=
  ∀ (s : State) (sls : List Slot), validConfig s.cfg = true → s.state = .idle →
    sls.length = s.cfg.n + s.cfg.resetCycles - 1 →
    ∃ t u, exec .update s = .next t ∧ runEvents (sls.map signalOf) t = .next u ∧ u.state = .idle ∧
      ∀ k, k < sls.length → ∃ v, runEvents ((sls.take k).map signalOf) t = .next v ∧ v.state ≠ .idle

/-- Every step keeps the invariant (41_state_machine R104, 60_exceptions R135, 20_memory R41; the store's canonical
form is the model's, log 4). -/
def Obligations.StepKeepsInvariant : Prop :=
  ∀ s t : State, GoodState s → step s = .next t → GoodState t

/-- The invariant holds right after reset, for every admitted instance, and the example instance is one. -/
def Obligations.ResetMeetsInvariant : Prop :=
  (∀ c : Config, validConfig c = true → GoodState (State.resetOf c)) ∧ GoodState State.reset

/-- 41_state_machine R106, derived in the spec: with prompt delivery and enough carrier periods, a cycle makes the engine copy exactly every
pixel's frame and then the reset blocks, and stop; the trace is finished, nothing was torn, and the line has been low
for at least the latch minimum (as log 8 counts it). -/
def Obligations.TransmittedStream : Prop :=
  ∀ s : State, validConfig s.cfg = true → s.cfg.delivery = .prompt → s.state = .idle → s.xeMode = .stopped →
    s.pend = [] → s.xc = .none → s.rsp = none → s.hostCmd = none →
    s.trace = .host 0b001#3 :: List.replicate (24 * (s.cfg.n + s.cfg.resetCycles)) (.env .tick) →
    ∃ k t, Host.Core.run Sys2Proof.core k s = .next t ∧ finished t ∧ t.wave = cycleStream s ∧ t.torn = false ∧
      50000 ≤ t.lowRun * s.cfg.carrierNs
end

