-- ==== Sys2Proof/Laws/State.lean ====
section
/-!
SUPPORT. Laws/State.lean: what each named update does to each field of the state, one lemma a field, so that no
later proof unfolds a record update.
-/

namespace Sys2Proof.Machine

variable (s : State)

@[simp] theorem setState_cfg (l : Lifecycle) : (setState l s).cfg = s.cfg := rfl
@[simp] theorem setState_state (l : Lifecycle) : (setState l s).state = l := rfl
@[simp] theorem setState_cursor (l : Lifecycle) : (setState l s).cursor = s.cursor := rfl
@[simp] theorem setState_q (l : Lifecycle) : (setState l s).q = s.q := rfl
@[simp] theorem setState_pix (l : Lifecycle) : (setState l s).pix = s.pix := rfl
@[simp] theorem setState_hostCmd (l : Lifecycle) : (setState l s).hostCmd = s.hostCmd := rfl
@[simp] theorem setState_xc (l : Lifecycle) : (setState l s).xc = s.xc := rfl
@[simp] theorem setState_rsp (l : Lifecycle) : (setState l s).rsp = s.rsp := rfl
@[simp] theorem setState_xeMode (l : Lifecycle) : (setState l s).xeMode = s.xeMode := rfl
@[simp] theorem setState_rp (l : Lifecycle) : (setState l s).rp = s.rp := rfl
@[simp] theorem setState_pend (l : Lifecycle) : (setState l s).pend = s.pend := rfl
@[simp] theorem setState_line (l : Lifecycle) : (setState l s).line = s.line := rfl
@[simp] theorem setState_wave (l : Lifecycle) : (setState l s).wave = s.wave := rfl
@[simp] theorem setState_lowRun (l : Lifecycle) : (setState l s).lowRun = s.lowRun := rfl
@[simp] theorem setState_periods (l : Lifecycle) : (setState l s).periods = s.periods := rfl
@[simp] theorem setState_delay (l : Lifecycle) : (setState l s).delay = s.delay := rfl
@[simp] theorem setState_dataSeen (l : Lifecycle) : (setState l s).dataSeen = s.dataSeen := rfl
@[simp] theorem setState_torn (l : Lifecycle) : (setState l s).torn = s.torn := rfl
@[simp] theorem setState_hazards (l : Lifecycle) : (setState l s).hazards = s.hazards := rfl
@[simp] theorem setState_xcLog (l : Lifecycle) : (setState l s).xcLog = s.xcLog := rfl
@[simp] theorem setState_rspLog (l : Lifecycle) : (setState l s).rspLog = s.rspLog := rfl
@[simp] theorem setState_draws (l : Lifecycle) : (setState l s).draws = s.draws := rfl
@[simp] theorem setState_trace (l : Lifecycle) : (setState l s).trace = s.trace := rfl

@[simp] theorem setCursor_cfg (v : CursorWord) : (setCursor v s).cfg = s.cfg := rfl
@[simp] theorem setCursor_state (v : CursorWord) : (setCursor v s).state = s.state := rfl
@[simp] theorem setCursor_cursor (v : CursorWord) : (setCursor v s).cursor = v := rfl
@[simp] theorem setCursor_q (v : CursorWord) : (setCursor v s).q = s.q := rfl
@[simp] theorem setCursor_pix (v : CursorWord) : (setCursor v s).pix = s.pix := rfl
@[simp] theorem setCursor_hostCmd (v : CursorWord) : (setCursor v s).hostCmd = s.hostCmd := rfl
@[simp] theorem setCursor_xc (v : CursorWord) : (setCursor v s).xc = s.xc := rfl
@[simp] theorem setCursor_rsp (v : CursorWord) : (setCursor v s).rsp = s.rsp := rfl
@[simp] theorem setCursor_xeMode (v : CursorWord) : (setCursor v s).xeMode = s.xeMode := rfl
@[simp] theorem setCursor_rp (v : CursorWord) : (setCursor v s).rp = s.rp := rfl
@[simp] theorem setCursor_pend (v : CursorWord) : (setCursor v s).pend = s.pend := rfl
@[simp] theorem setCursor_line (v : CursorWord) : (setCursor v s).line = s.line := rfl
@[simp] theorem setCursor_wave (v : CursorWord) : (setCursor v s).wave = s.wave := rfl
@[simp] theorem setCursor_lowRun (v : CursorWord) : (setCursor v s).lowRun = s.lowRun := rfl
@[simp] theorem setCursor_periods (v : CursorWord) : (setCursor v s).periods = s.periods := rfl
@[simp] theorem setCursor_delay (v : CursorWord) : (setCursor v s).delay = s.delay := rfl
@[simp] theorem setCursor_dataSeen (v : CursorWord) : (setCursor v s).dataSeen = s.dataSeen := rfl
@[simp] theorem setCursor_torn (v : CursorWord) : (setCursor v s).torn = s.torn := rfl
@[simp] theorem setCursor_hazards (v : CursorWord) : (setCursor v s).hazards = s.hazards := rfl
@[simp] theorem setCursor_xcLog (v : CursorWord) : (setCursor v s).xcLog = s.xcLog := rfl
@[simp] theorem setCursor_rspLog (v : CursorWord) : (setCursor v s).rspLog = s.rspLog := rfl
@[simp] theorem setCursor_draws (v : CursorWord) : (setCursor v s).draws = s.draws := rfl
@[simp] theorem setCursor_trace (v : CursorWord) : (setCursor v s).trace = s.trace := rfl

@[simp] theorem setQueue_cfg (q : Vector DutyCode 48) : (setQueue q s).cfg = s.cfg := rfl
@[simp] theorem setQueue_state (q : Vector DutyCode 48) : (setQueue q s).state = s.state := rfl
@[simp] theorem setQueue_cursor (q : Vector DutyCode 48) : (setQueue q s).cursor = s.cursor := rfl
@[simp] theorem setQueue_q (q : Vector DutyCode 48) : (setQueue q s).q = q := rfl
@[simp] theorem setQueue_pix (q : Vector DutyCode 48) : (setQueue q s).pix = s.pix := rfl
@[simp] theorem setQueue_hostCmd (q : Vector DutyCode 48) : (setQueue q s).hostCmd = s.hostCmd := rfl
@[simp] theorem setQueue_xc (q : Vector DutyCode 48) : (setQueue q s).xc = s.xc := rfl
@[simp] theorem setQueue_rsp (q : Vector DutyCode 48) : (setQueue q s).rsp = s.rsp := rfl
@[simp] theorem setQueue_xeMode (q : Vector DutyCode 48) : (setQueue q s).xeMode = s.xeMode := rfl
@[simp] theorem setQueue_rp (q : Vector DutyCode 48) : (setQueue q s).rp = s.rp := rfl
@[simp] theorem setQueue_pend (q : Vector DutyCode 48) : (setQueue q s).pend = s.pend := rfl
@[simp] theorem setQueue_line (q : Vector DutyCode 48) : (setQueue q s).line = s.line := rfl
@[simp] theorem setQueue_wave (q : Vector DutyCode 48) : (setQueue q s).wave = s.wave := rfl
@[simp] theorem setQueue_lowRun (q : Vector DutyCode 48) : (setQueue q s).lowRun = s.lowRun := rfl
@[simp] theorem setQueue_periods (q : Vector DutyCode 48) : (setQueue q s).periods = s.periods := rfl
@[simp] theorem setQueue_delay (q : Vector DutyCode 48) : (setQueue q s).delay = s.delay := rfl
@[simp] theorem setQueue_dataSeen (q : Vector DutyCode 48) : (setQueue q s).dataSeen = s.dataSeen := rfl
@[simp] theorem setQueue_torn (q : Vector DutyCode 48) : (setQueue q s).torn = s.torn := rfl
@[simp] theorem setQueue_hazards (q : Vector DutyCode 48) : (setQueue q s).hazards = s.hazards := rfl
@[simp] theorem setQueue_xcLog (q : Vector DutyCode 48) : (setQueue q s).xcLog = s.xcLog := rfl
@[simp] theorem setQueue_rspLog (q : Vector DutyCode 48) : (setQueue q s).rspLog = s.rspLog := rfl
@[simp] theorem setQueue_draws (q : Vector DutyCode 48) : (setQueue q s).draws = s.draws := rfl
@[simp] theorem setQueue_trace (q : Vector DutyCode 48) : (setQueue q s).trace = s.trace := rfl

@[simp] theorem emit_cfg (c : XferCmd) : (emit c s).cfg = s.cfg := rfl
@[simp] theorem emit_state (c : XferCmd) : (emit c s).state = s.state := rfl
@[simp] theorem emit_cursor (c : XferCmd) : (emit c s).cursor = s.cursor := rfl
@[simp] theorem emit_q (c : XferCmd) : (emit c s).q = s.q := rfl
@[simp] theorem emit_pix (c : XferCmd) : (emit c s).pix = s.pix := rfl
@[simp] theorem emit_hostCmd (c : XferCmd) : (emit c s).hostCmd = s.hostCmd := rfl
@[simp] theorem emit_xc (c : XferCmd) : (emit c s).xc = c := rfl
@[simp] theorem emit_rsp (c : XferCmd) : (emit c s).rsp = s.rsp := rfl
@[simp] theorem emit_xeMode (c : XferCmd) : (emit c s).xeMode = s.xeMode := rfl
@[simp] theorem emit_rp (c : XferCmd) : (emit c s).rp = s.rp := rfl
@[simp] theorem emit_pend (c : XferCmd) : (emit c s).pend = s.pend := rfl
@[simp] theorem emit_line (c : XferCmd) : (emit c s).line = s.line := rfl
@[simp] theorem emit_wave (c : XferCmd) : (emit c s).wave = s.wave := rfl
@[simp] theorem emit_lowRun (c : XferCmd) : (emit c s).lowRun = s.lowRun := rfl
@[simp] theorem emit_periods (c : XferCmd) : (emit c s).periods = s.periods := rfl
@[simp] theorem emit_delay (c : XferCmd) : (emit c s).delay = s.delay := rfl
@[simp] theorem emit_dataSeen (c : XferCmd) : (emit c s).dataSeen = s.dataSeen := rfl
@[simp] theorem emit_torn (c : XferCmd) : (emit c s).torn = s.torn := rfl
@[simp] theorem emit_hazards (c : XferCmd) : (emit c s).hazards = s.hazards := rfl
@[simp] theorem emit_xcLog (c : XferCmd) : (emit c s).xcLog = s.xcLog := rfl
@[simp] theorem emit_rspLog (c : XferCmd) : (emit c s).rspLog = s.rspLog := rfl
@[simp] theorem emit_draws (c : XferCmd) : (emit c s).draws = s.draws := rfl
@[simp] theorem emit_trace (c : XferCmd) : (emit c s).trace = s.trace := rfl

@[simp] theorem respond_cfg (code : ResultCode) (val : RspValue) : (respond code val s).cfg = s.cfg := rfl
@[simp] theorem respond_state (code : ResultCode) (val : RspValue) : (respond code val s).state = s.state := rfl
@[simp] theorem respond_cursor (code : ResultCode) (val : RspValue) : (respond code val s).cursor = s.cursor := rfl
@[simp] theorem respond_q (code : ResultCode) (val : RspValue) : (respond code val s).q = s.q := rfl
@[simp] theorem respond_pix (code : ResultCode) (val : RspValue) : (respond code val s).pix = s.pix := rfl
@[simp] theorem respond_hostCmd (code : ResultCode) (val : RspValue) : (respond code val s).hostCmd = s.hostCmd := rfl
@[simp] theorem respond_xc (code : ResultCode) (val : RspValue) : (respond code val s).xc = s.xc := rfl
@[simp] theorem respond_rsp (code : ResultCode) (val : RspValue) : (respond code val s).rsp = some { code := code, val := val } := rfl
@[simp] theorem respond_xeMode (code : ResultCode) (val : RspValue) : (respond code val s).xeMode = s.xeMode := rfl
@[simp] theorem respond_rp (code : ResultCode) (val : RspValue) : (respond code val s).rp = s.rp := rfl
@[simp] theorem respond_pend (code : ResultCode) (val : RspValue) : (respond code val s).pend = s.pend := rfl
@[simp] theorem respond_line (code : ResultCode) (val : RspValue) : (respond code val s).line = s.line := rfl
@[simp] theorem respond_wave (code : ResultCode) (val : RspValue) : (respond code val s).wave = s.wave := rfl
@[simp] theorem respond_lowRun (code : ResultCode) (val : RspValue) : (respond code val s).lowRun = s.lowRun := rfl
@[simp] theorem respond_periods (code : ResultCode) (val : RspValue) : (respond code val s).periods = s.periods := rfl
@[simp] theorem respond_delay (code : ResultCode) (val : RspValue) : (respond code val s).delay = s.delay := rfl
@[simp] theorem respond_dataSeen (code : ResultCode) (val : RspValue) : (respond code val s).dataSeen = s.dataSeen := rfl
@[simp] theorem respond_torn (code : ResultCode) (val : RspValue) : (respond code val s).torn = s.torn := rfl
@[simp] theorem respond_hazards (code : ResultCode) (val : RspValue) : (respond code val s).hazards = s.hazards := rfl
@[simp] theorem respond_xcLog (code : ResultCode) (val : RspValue) : (respond code val s).xcLog = s.xcLog := rfl
@[simp] theorem respond_rspLog (code : ResultCode) (val : RspValue) : (respond code val s).rspLog = s.rspLog := rfl
@[simp] theorem respond_draws (code : ResultCode) (val : RspValue) : (respond code val s).draws = s.draws := rfl
@[simp] theorem respond_trace (code : ResultCode) (val : RspValue) : (respond code val s).trace = s.trace := rfl

@[simp] theorem raiseResult_cfg (code : ResultCode) : (raiseResult code s).cfg = s.cfg := rfl
@[simp] theorem raiseResult_state (code : ResultCode) : (raiseResult code s).state = s.state := rfl
@[simp] theorem raiseResult_cursor (code : ResultCode) : (raiseResult code s).cursor = s.cursor := rfl
@[simp] theorem raiseResult_q (code : ResultCode) : (raiseResult code s).q = s.q := rfl
@[simp] theorem raiseResult_pix (code : ResultCode) : (raiseResult code s).pix = s.pix := rfl
@[simp] theorem raiseResult_hostCmd (code : ResultCode) : (raiseResult code s).hostCmd = s.hostCmd := rfl
@[simp] theorem raiseResult_xc (code : ResultCode) : (raiseResult code s).xc = .none := rfl
@[simp] theorem raiseResult_rsp (code : ResultCode) : (raiseResult code s).rsp = some { code := code, val := 0 } := rfl
@[simp] theorem raiseResult_xeMode (code : ResultCode) : (raiseResult code s).xeMode = s.xeMode := rfl
@[simp] theorem raiseResult_rp (code : ResultCode) : (raiseResult code s).rp = s.rp := rfl
@[simp] theorem raiseResult_pend (code : ResultCode) : (raiseResult code s).pend = s.pend := rfl
@[simp] theorem raiseResult_line (code : ResultCode) : (raiseResult code s).line = s.line := rfl
@[simp] theorem raiseResult_wave (code : ResultCode) : (raiseResult code s).wave = s.wave := rfl
@[simp] theorem raiseResult_lowRun (code : ResultCode) : (raiseResult code s).lowRun = s.lowRun := rfl
@[simp] theorem raiseResult_periods (code : ResultCode) : (raiseResult code s).periods = s.periods := rfl
@[simp] theorem raiseResult_delay (code : ResultCode) : (raiseResult code s).delay = s.delay := rfl
@[simp] theorem raiseResult_dataSeen (code : ResultCode) : (raiseResult code s).dataSeen = s.dataSeen := rfl
@[simp] theorem raiseResult_torn (code : ResultCode) : (raiseResult code s).torn = s.torn := rfl
@[simp] theorem raiseResult_hazards (code : ResultCode) : (raiseResult code s).hazards = s.hazards := rfl
@[simp] theorem raiseResult_xcLog (code : ResultCode) : (raiseResult code s).xcLog = s.xcLog := rfl
@[simp] theorem raiseResult_rspLog (code : ResultCode) : (raiseResult code s).rspLog = s.rspLog := rfl
@[simp] theorem raiseResult_draws (code : ResultCode) : (raiseResult code s).draws = s.draws := rfl
@[simp] theorem raiseResult_trace (code : ResultCode) : (raiseResult code s).trace = s.trace := rfl

@[simp] theorem anomaly_cfg : (anomaly s).cfg = s.cfg := rfl
@[simp] theorem anomaly_state : (anomaly s).state = .idle := rfl
@[simp] theorem anomaly_cursor : (anomaly s).cursor = s.cursor := rfl
@[simp] theorem anomaly_q : (anomaly s).q = s.q := rfl
@[simp] theorem anomaly_pix : (anomaly s).pix = s.pix := rfl
@[simp] theorem anomaly_hostCmd : (anomaly s).hostCmd = s.hostCmd := rfl
@[simp] theorem anomaly_xc : (anomaly s).xc = .stopNow := rfl
@[simp] theorem anomaly_rsp : (anomaly s).rsp = s.rsp := rfl
@[simp] theorem anomaly_xeMode : (anomaly s).xeMode = s.xeMode := rfl
@[simp] theorem anomaly_rp : (anomaly s).rp = s.rp := rfl
@[simp] theorem anomaly_pend : (anomaly s).pend = s.pend := rfl
@[simp] theorem anomaly_line : (anomaly s).line = s.line := rfl
@[simp] theorem anomaly_wave : (anomaly s).wave = s.wave := rfl
@[simp] theorem anomaly_lowRun : (anomaly s).lowRun = s.lowRun := rfl
@[simp] theorem anomaly_periods : (anomaly s).periods = s.periods := rfl
@[simp] theorem anomaly_delay : (anomaly s).delay = s.delay := rfl
@[simp] theorem anomaly_dataSeen : (anomaly s).dataSeen = s.dataSeen := rfl
@[simp] theorem anomaly_torn : (anomaly s).torn = s.torn := rfl
@[simp] theorem anomaly_hazards : (anomaly s).hazards = s.hazards := rfl
@[simp] theorem anomaly_xcLog : (anomaly s).xcLog = s.xcLog := rfl
@[simp] theorem anomaly_rspLog : (anomaly s).rspLog = s.rspLog := rfl
@[simp] theorem anomaly_draws : (anomaly s).draws = s.draws := rfl
@[simp] theorem anomaly_trace : (anomaly s).trace = s.trace := rfl

@[simp] theorem abortRunning_cfg : (abortRunning s).cfg = s.cfg := rfl
@[simp] theorem abortRunning_state : (abortRunning s).state = .idle := rfl
@[simp] theorem abortRunning_cursor : (abortRunning s).cursor = s.cursor := rfl
@[simp] theorem abortRunning_q : (abortRunning s).q = s.q := rfl
@[simp] theorem abortRunning_pix : (abortRunning s).pix = s.pix := rfl
@[simp] theorem abortRunning_hostCmd : (abortRunning s).hostCmd = s.hostCmd := rfl
@[simp] theorem abortRunning_xc : (abortRunning s).xc = .stopNow := rfl
@[simp] theorem abortRunning_rsp : (abortRunning s).rsp = s.rsp := rfl
@[simp] theorem abortRunning_xeMode : (abortRunning s).xeMode = s.xeMode := rfl
@[simp] theorem abortRunning_rp : (abortRunning s).rp = s.rp := rfl
@[simp] theorem abortRunning_pend : (abortRunning s).pend = s.pend := rfl
@[simp] theorem abortRunning_line : (abortRunning s).line = s.line := rfl
@[simp] theorem abortRunning_wave : (abortRunning s).wave = s.wave := rfl
@[simp] theorem abortRunning_lowRun : (abortRunning s).lowRun = s.lowRun := rfl
@[simp] theorem abortRunning_periods : (abortRunning s).periods = s.periods := rfl
@[simp] theorem abortRunning_delay : (abortRunning s).delay = s.delay := rfl
@[simp] theorem abortRunning_dataSeen : (abortRunning s).dataSeen = s.dataSeen := rfl
@[simp] theorem abortRunning_torn : (abortRunning s).torn = s.torn := rfl
@[simp] theorem abortRunning_hazards : (abortRunning s).hazards = s.hazards := rfl
@[simp] theorem abortRunning_xcLog : (abortRunning s).xcLog = s.xcLog := rfl
@[simp] theorem abortRunning_rspLog : (abortRunning s).rspLog = s.rspLog := rfl
@[simp] theorem abortRunning_draws : (abortRunning s).draws = s.draws := rfl
@[simp] theorem abortRunning_trace : (abortRunning s).trace = s.trace := rfl

@[simp] theorem beginCycle_cfg (v : CursorWord) (l : Lifecycle) : (beginCycle v l s).cfg = s.cfg := rfl
@[simp] theorem beginCycle_state (v : CursorWord) (l : Lifecycle) : (beginCycle v l s).state = l := rfl
@[simp] theorem beginCycle_cursor (v : CursorWord) (l : Lifecycle) : (beginCycle v l s).cursor = v := rfl
@[simp] theorem beginCycle_q (v : CursorWord) (l : Lifecycle) : (beginCycle v l s).q = s.q := rfl
@[simp] theorem beginCycle_pix (v : CursorWord) (l : Lifecycle) : (beginCycle v l s).pix = s.pix := rfl
@[simp] theorem beginCycle_hostCmd (v : CursorWord) (l : Lifecycle) : (beginCycle v l s).hostCmd = s.hostCmd := rfl
@[simp] theorem beginCycle_xc (v : CursorWord) (l : Lifecycle) : (beginCycle v l s).xc = .startCircular := rfl
@[simp] theorem beginCycle_rsp (v : CursorWord) (l : Lifecycle) : (beginCycle v l s).rsp = s.rsp := rfl
@[simp] theorem beginCycle_xeMode (v : CursorWord) (l : Lifecycle) : (beginCycle v l s).xeMode = s.xeMode := rfl
@[simp] theorem beginCycle_rp (v : CursorWord) (l : Lifecycle) : (beginCycle v l s).rp = s.rp := rfl
@[simp] theorem beginCycle_pend (v : CursorWord) (l : Lifecycle) : (beginCycle v l s).pend = s.pend := rfl
@[simp] theorem beginCycle_line (v : CursorWord) (l : Lifecycle) : (beginCycle v l s).line = s.line := rfl
@[simp] theorem beginCycle_wave (v : CursorWord) (l : Lifecycle) : (beginCycle v l s).wave = s.wave := rfl
@[simp] theorem beginCycle_lowRun (v : CursorWord) (l : Lifecycle) : (beginCycle v l s).lowRun = s.lowRun := rfl
@[simp] theorem beginCycle_periods (v : CursorWord) (l : Lifecycle) : (beginCycle v l s).periods = s.periods := rfl
@[simp] theorem beginCycle_delay (v : CursorWord) (l : Lifecycle) : (beginCycle v l s).delay = s.delay := rfl
@[simp] theorem beginCycle_dataSeen (v : CursorWord) (l : Lifecycle) : (beginCycle v l s).dataSeen = s.dataSeen := rfl
@[simp] theorem beginCycle_torn (v : CursorWord) (l : Lifecycle) : (beginCycle v l s).torn = s.torn := rfl
@[simp] theorem beginCycle_hazards (v : CursorWord) (l : Lifecycle) : (beginCycle v l s).hazards = s.hazards := rfl
@[simp] theorem beginCycle_xcLog (v : CursorWord) (l : Lifecycle) : (beginCycle v l s).xcLog = s.xcLog := rfl
@[simp] theorem beginCycle_rspLog (v : CursorWord) (l : Lifecycle) : (beginCycle v l s).rspLog = s.rspLog := rfl
@[simp] theorem beginCycle_draws (v : CursorWord) (l : Lifecycle) : (beginCycle v l s).draws = s.draws := rfl
@[simp] theorem beginCycle_trace (v : CursorWord) (l : Lifecycle) : (beginCycle v l s).trace = s.trace := rfl

@[simp] theorem logCommand_cfg (c : XferCmd) : (logCommand c s).cfg = s.cfg := rfl
@[simp] theorem logCommand_state (c : XferCmd) : (logCommand c s).state = s.state := rfl
@[simp] theorem logCommand_cursor (c : XferCmd) : (logCommand c s).cursor = s.cursor := rfl
@[simp] theorem logCommand_q (c : XferCmd) : (logCommand c s).q = s.q := rfl
@[simp] theorem logCommand_pix (c : XferCmd) : (logCommand c s).pix = s.pix := rfl
@[simp] theorem logCommand_hostCmd (c : XferCmd) : (logCommand c s).hostCmd = s.hostCmd := rfl
@[simp] theorem logCommand_xc (c : XferCmd) : (logCommand c s).xc = s.xc := rfl
@[simp] theorem logCommand_rsp (c : XferCmd) : (logCommand c s).rsp = s.rsp := rfl
@[simp] theorem logCommand_xeMode (c : XferCmd) : (logCommand c s).xeMode = s.xeMode := rfl
@[simp] theorem logCommand_rp (c : XferCmd) : (logCommand c s).rp = s.rp := rfl
@[simp] theorem logCommand_pend (c : XferCmd) : (logCommand c s).pend = s.pend := rfl
@[simp] theorem logCommand_line (c : XferCmd) : (logCommand c s).line = s.line := rfl
@[simp] theorem logCommand_wave (c : XferCmd) : (logCommand c s).wave = s.wave := rfl
@[simp] theorem logCommand_lowRun (c : XferCmd) : (logCommand c s).lowRun = s.lowRun := rfl
@[simp] theorem logCommand_periods (c : XferCmd) : (logCommand c s).periods = s.periods := rfl
@[simp] theorem logCommand_delay (c : XferCmd) : (logCommand c s).delay = s.delay := rfl
@[simp] theorem logCommand_dataSeen (c : XferCmd) : (logCommand c s).dataSeen = s.dataSeen := rfl
@[simp] theorem logCommand_torn (c : XferCmd) : (logCommand c s).torn = s.torn := rfl
@[simp] theorem logCommand_hazards (c : XferCmd) : (logCommand c s).hazards = s.hazards := rfl
@[simp] theorem logCommand_xcLog (c : XferCmd) : (logCommand c s).xcLog = s.xcLog ++ [c] := rfl
@[simp] theorem logCommand_rspLog (c : XferCmd) : (logCommand c s).rspLog = s.rspLog := rfl
@[simp] theorem logCommand_draws (c : XferCmd) : (logCommand c s).draws = s.draws := rfl
@[simp] theorem logCommand_trace (c : XferCmd) : (logCommand c s).trace = s.trace := rfl

@[simp] theorem logResponse_cfg (r : Response) : (logResponse r s).cfg = s.cfg := rfl
@[simp] theorem logResponse_state (r : Response) : (logResponse r s).state = s.state := rfl
@[simp] theorem logResponse_cursor (r : Response) : (logResponse r s).cursor = s.cursor := rfl
@[simp] theorem logResponse_q (r : Response) : (logResponse r s).q = s.q := rfl
@[simp] theorem logResponse_pix (r : Response) : (logResponse r s).pix = s.pix := rfl
@[simp] theorem logResponse_hostCmd (r : Response) : (logResponse r s).hostCmd = s.hostCmd := rfl
@[simp] theorem logResponse_xc (r : Response) : (logResponse r s).xc = s.xc := rfl
@[simp] theorem logResponse_rsp (r : Response) : (logResponse r s).rsp = s.rsp := rfl
@[simp] theorem logResponse_xeMode (r : Response) : (logResponse r s).xeMode = s.xeMode := rfl
@[simp] theorem logResponse_rp (r : Response) : (logResponse r s).rp = s.rp := rfl
@[simp] theorem logResponse_pend (r : Response) : (logResponse r s).pend = s.pend := rfl
@[simp] theorem logResponse_line (r : Response) : (logResponse r s).line = s.line := rfl
@[simp] theorem logResponse_wave (r : Response) : (logResponse r s).wave = s.wave := rfl
@[simp] theorem logResponse_lowRun (r : Response) : (logResponse r s).lowRun = s.lowRun := rfl
@[simp] theorem logResponse_periods (r : Response) : (logResponse r s).periods = s.periods := rfl
@[simp] theorem logResponse_delay (r : Response) : (logResponse r s).delay = s.delay := rfl
@[simp] theorem logResponse_dataSeen (r : Response) : (logResponse r s).dataSeen = s.dataSeen := rfl
@[simp] theorem logResponse_torn (r : Response) : (logResponse r s).torn = s.torn := rfl
@[simp] theorem logResponse_hazards (r : Response) : (logResponse r s).hazards = s.hazards := rfl
@[simp] theorem logResponse_xcLog (r : Response) : (logResponse r s).xcLog = s.xcLog := rfl
@[simp] theorem logResponse_rspLog (r : Response) : (logResponse r s).rspLog = s.rspLog ++ [r] := rfl
@[simp] theorem logResponse_draws (r : Response) : (logResponse r s).draws = s.draws := rfl
@[simp] theorem logResponse_trace (r : Response) : (logResponse r s).trace = s.trace := rfl

@[simp] theorem clearTorn_cfg : (clearTorn s).cfg = s.cfg := rfl
@[simp] theorem clearTorn_state : (clearTorn s).state = s.state := rfl
@[simp] theorem clearTorn_cursor : (clearTorn s).cursor = s.cursor := rfl
@[simp] theorem clearTorn_q : (clearTorn s).q = s.q := rfl
@[simp] theorem clearTorn_pix : (clearTorn s).pix = s.pix := rfl
@[simp] theorem clearTorn_hostCmd : (clearTorn s).hostCmd = s.hostCmd := rfl
@[simp] theorem clearTorn_xc : (clearTorn s).xc = s.xc := rfl
@[simp] theorem clearTorn_rsp : (clearTorn s).rsp = s.rsp := rfl
@[simp] theorem clearTorn_xeMode : (clearTorn s).xeMode = s.xeMode := rfl
@[simp] theorem clearTorn_rp : (clearTorn s).rp = s.rp := rfl
@[simp] theorem clearTorn_pend : (clearTorn s).pend = s.pend := rfl
@[simp] theorem clearTorn_line : (clearTorn s).line = s.line := rfl
@[simp] theorem clearTorn_wave : (clearTorn s).wave = s.wave := rfl
@[simp] theorem clearTorn_lowRun : (clearTorn s).lowRun = s.lowRun := rfl
@[simp] theorem clearTorn_periods : (clearTorn s).periods = s.periods := rfl
@[simp] theorem clearTorn_delay : (clearTorn s).delay = s.delay := rfl
@[simp] theorem clearTorn_dataSeen : (clearTorn s).dataSeen = s.dataSeen := rfl
@[simp] theorem clearTorn_torn : (clearTorn s).torn = false := rfl
@[simp] theorem clearTorn_hazards : (clearTorn s).hazards = s.hazards := rfl
@[simp] theorem clearTorn_xcLog : (clearTorn s).xcLog = s.xcLog := rfl
@[simp] theorem clearTorn_rspLog : (clearTorn s).rspLog = s.rspLog := rfl
@[simp] theorem clearTorn_draws : (clearTorn s).draws = s.draws := rfl
@[simp] theorem clearTorn_trace : (clearTorn s).trace = s.trace := rfl

@[simp] theorem advancePointer_cfg : (advancePointer s).cfg = s.cfg := rfl
@[simp] theorem advancePointer_state : (advancePointer s).state = s.state := rfl
@[simp] theorem advancePointer_cursor : (advancePointer s).cursor = s.cursor := rfl
@[simp] theorem advancePointer_q : (advancePointer s).q = s.q := rfl
@[simp] theorem advancePointer_pix : (advancePointer s).pix = s.pix := rfl
@[simp] theorem advancePointer_hostCmd : (advancePointer s).hostCmd = s.hostCmd := rfl
@[simp] theorem advancePointer_xc : (advancePointer s).xc = s.xc := rfl
@[simp] theorem advancePointer_rsp : (advancePointer s).rsp = s.rsp := rfl
@[simp] theorem advancePointer_xeMode : (advancePointer s).xeMode = s.xeMode := rfl
@[simp] theorem advancePointer_rp : (advancePointer s).rp = s.rp + 1 := rfl
@[simp] theorem advancePointer_pend : (advancePointer s).pend = s.pend := rfl
@[simp] theorem advancePointer_line : (advancePointer s).line = s.line := rfl
@[simp] theorem advancePointer_wave : (advancePointer s).wave = s.wave := rfl
@[simp] theorem advancePointer_lowRun : (advancePointer s).lowRun = s.lowRun := rfl
@[simp] theorem advancePointer_periods : (advancePointer s).periods = s.periods + 1 := rfl
@[simp] theorem advancePointer_delay : (advancePointer s).delay = s.delay := rfl
@[simp] theorem advancePointer_dataSeen : (advancePointer s).dataSeen = s.dataSeen := rfl
@[simp] theorem advancePointer_torn : (advancePointer s).torn = s.torn := rfl
@[simp] theorem advancePointer_hazards : (advancePointer s).hazards = s.hazards := rfl
@[simp] theorem advancePointer_xcLog : (advancePointer s).xcLog = s.xcLog := rfl
@[simp] theorem advancePointer_rspLog : (advancePointer s).rspLog = s.rspLog := rfl
@[simp] theorem advancePointer_draws : (advancePointer s).draws = s.draws := rfl
@[simp] theorem advancePointer_trace : (advancePointer s).trace = s.trace := rfl

@[simp] theorem emitPeriod_cfg (d : DutyCode) : (emitPeriod d s).cfg = s.cfg := rfl
@[simp] theorem emitPeriod_state (d : DutyCode) : (emitPeriod d s).state = s.state := rfl
@[simp] theorem emitPeriod_cursor (d : DutyCode) : (emitPeriod d s).cursor = s.cursor := rfl
@[simp] theorem emitPeriod_q (d : DutyCode) : (emitPeriod d s).q = s.q := rfl
@[simp] theorem emitPeriod_pix (d : DutyCode) : (emitPeriod d s).pix = s.pix := rfl
@[simp] theorem emitPeriod_hostCmd (d : DutyCode) : (emitPeriod d s).hostCmd = s.hostCmd := rfl
@[simp] theorem emitPeriod_xc (d : DutyCode) : (emitPeriod d s).xc = s.xc := rfl
@[simp] theorem emitPeriod_rsp (d : DutyCode) : (emitPeriod d s).rsp = s.rsp := rfl
@[simp] theorem emitPeriod_xeMode (d : DutyCode) : (emitPeriod d s).xeMode = s.xeMode := rfl
@[simp] theorem emitPeriod_rp (d : DutyCode) : (emitPeriod d s).rp = s.rp := rfl
@[simp] theorem emitPeriod_pend (d : DutyCode) : (emitPeriod d s).pend = s.pend := rfl
@[simp] theorem emitPeriod_line (d : DutyCode) :
    (emitPeriod d s).line = if highTicks s.cfg d < s.cfg.periodTicks then .low else .high := rfl
@[simp] theorem emitPeriod_wave (d : DutyCode) : (emitPeriod d s).wave = s.wave := rfl
@[simp] theorem emitPeriod_lowRun (d : DutyCode) :
    (emitPeriod d s).lowRun = if highTicks s.cfg d = 0 then s.lowRun + 1 else 0 := rfl
@[simp] theorem emitPeriod_periods (d : DutyCode) : (emitPeriod d s).periods = s.periods := rfl
@[simp] theorem emitPeriod_delay (d : DutyCode) : (emitPeriod d s).delay = s.delay := rfl
@[simp] theorem emitPeriod_dataSeen (d : DutyCode) :
    (emitPeriod d s).dataSeen = (s.dataSeen || decide (highTicks s.cfg d ≠ 0)) := rfl
@[simp] theorem emitPeriod_torn (d : DutyCode) : (emitPeriod d s).torn = s.torn := rfl
@[simp] theorem emitPeriod_hazards (d : DutyCode) : (emitPeriod d s).hazards = s.hazards := rfl
@[simp] theorem emitPeriod_xcLog (d : DutyCode) : (emitPeriod d s).xcLog = s.xcLog := rfl
@[simp] theorem emitPeriod_rspLog (d : DutyCode) : (emitPeriod d s).rspLog = s.rspLog := rfl
@[simp] theorem emitPeriod_draws (d : DutyCode) : (emitPeriod d s).draws = s.draws := rfl
@[simp] theorem emitPeriod_trace (d : DutyCode) : (emitPeriod d s).trace = s.trace := rfl

@[simp] theorem copyCode_cfg (d : DutyCode) : (copyCode d s).cfg = s.cfg := rfl
@[simp] theorem copyCode_state (d : DutyCode) : (copyCode d s).state = s.state := rfl
@[simp] theorem copyCode_cursor (d : DutyCode) : (copyCode d s).cursor = s.cursor := rfl
@[simp] theorem copyCode_q (d : DutyCode) : (copyCode d s).q = s.q := rfl
@[simp] theorem copyCode_pix (d : DutyCode) : (copyCode d s).pix = s.pix := rfl
@[simp] theorem copyCode_hostCmd (d : DutyCode) : (copyCode d s).hostCmd = s.hostCmd := rfl
@[simp] theorem copyCode_xc (d : DutyCode) : (copyCode d s).xc = s.xc := rfl
@[simp] theorem copyCode_rsp (d : DutyCode) : (copyCode d s).rsp = s.rsp := rfl
@[simp] theorem copyCode_xeMode (d : DutyCode) : (copyCode d s).xeMode = s.xeMode := rfl
@[simp] theorem copyCode_rp (d : DutyCode) : (copyCode d s).rp = s.rp := rfl
@[simp] theorem copyCode_pend (d : DutyCode) : (copyCode d s).pend = s.pend := rfl
@[simp] theorem copyCode_line (d : DutyCode) : (copyCode d s).line = s.line := rfl
@[simp] theorem copyCode_wave (d : DutyCode) : (copyCode d s).wave = s.wave ++ [d] := rfl
@[simp] theorem copyCode_lowRun (d : DutyCode) : (copyCode d s).lowRun = s.lowRun := rfl
@[simp] theorem copyCode_periods (d : DutyCode) : (copyCode d s).periods = s.periods := rfl
@[simp] theorem copyCode_delay (d : DutyCode) : (copyCode d s).delay = s.delay := rfl
@[simp] theorem copyCode_dataSeen (d : DutyCode) : (copyCode d s).dataSeen = s.dataSeen := rfl
@[simp] theorem copyCode_torn (d : DutyCode) : (copyCode d s).torn = s.torn := rfl
@[simp] theorem copyCode_hazards (d : DutyCode) : (copyCode d s).hazards = s.hazards := rfl
@[simp] theorem copyCode_xcLog (d : DutyCode) : (copyCode d s).xcLog = s.xcLog := rfl
@[simp] theorem copyCode_rspLog (d : DutyCode) : (copyCode d s).rspLog = s.rspLog := rfl
@[simp] theorem copyCode_draws (d : DutyCode) : (copyCode d s).draws = if s.torn then s.draws + 1 else s.draws := rfl
@[simp] theorem copyCode_trace (d : DutyCode) : (copyCode d s).trace = s.trace := rfl

@[simp] theorem touchSlot_cfg (sl : Slot) : (touchSlot sl s).cfg = s.cfg := by
  unfold touchSlot; split <;> rfl
@[simp] theorem touchSlot_state (sl : Slot) : (touchSlot sl s).state = s.state := by
  unfold touchSlot; split <;> rfl
@[simp] theorem touchSlot_cursor (sl : Slot) : (touchSlot sl s).cursor = s.cursor := by
  unfold touchSlot; split <;> rfl
@[simp] theorem touchSlot_q (sl : Slot) : (touchSlot sl s).q = s.q := by
  unfold touchSlot; split <;> rfl
@[simp] theorem touchSlot_pix (sl : Slot) : (touchSlot sl s).pix = s.pix := by
  unfold touchSlot; split <;> rfl
@[simp] theorem touchSlot_hostCmd (sl : Slot) : (touchSlot sl s).hostCmd = s.hostCmd := by
  unfold touchSlot; split <;> rfl
@[simp] theorem touchSlot_xc (sl : Slot) : (touchSlot sl s).xc = s.xc := by
  unfold touchSlot; split <;> rfl
@[simp] theorem touchSlot_rsp (sl : Slot) : (touchSlot sl s).rsp = s.rsp := by
  unfold touchSlot; split <;> rfl
@[simp] theorem touchSlot_xeMode (sl : Slot) : (touchSlot sl s).xeMode = s.xeMode := by
  unfold touchSlot; split <;> rfl
@[simp] theorem touchSlot_rp (sl : Slot) : (touchSlot sl s).rp = s.rp := by
  unfold touchSlot; split <;> rfl
@[simp] theorem touchSlot_pend (sl : Slot) : (touchSlot sl s).pend = s.pend := by
  unfold touchSlot; split <;> rfl
@[simp] theorem touchSlot_line (sl : Slot) : (touchSlot sl s).line = s.line := by
  unfold touchSlot; split <;> rfl
@[simp] theorem touchSlot_wave (sl : Slot) : (touchSlot sl s).wave = s.wave := by
  unfold touchSlot; split <;> rfl
@[simp] theorem touchSlot_lowRun (sl : Slot) : (touchSlot sl s).lowRun = s.lowRun := by
  unfold touchSlot; split <;> rfl
@[simp] theorem touchSlot_periods (sl : Slot) : (touchSlot sl s).periods = s.periods := by
  unfold touchSlot; split <;> rfl
@[simp] theorem touchSlot_delay (sl : Slot) : (touchSlot sl s).delay = s.delay := by
  unfold touchSlot; split <;> rfl
@[simp] theorem touchSlot_dataSeen (sl : Slot) : (touchSlot sl s).dataSeen = s.dataSeen := by
  unfold touchSlot; split <;> rfl
@[simp] theorem touchSlot_torn (sl : Slot) : (touchSlot sl s).torn = (s.torn || overlaps sl s) := by
  unfold touchSlot; split <;> simp_all [recordTorn]
@[simp] theorem touchSlot_hazards (sl : Slot) :
    (touchSlot sl s).hazards = s.hazards ++ (if overlaps sl s then [.tornWrite] else []) := by
  unfold touchSlot; split <;> simp [recordTorn]
@[simp] theorem touchSlot_xcLog (sl : Slot) : (touchSlot sl s).xcLog = s.xcLog := by
  unfold touchSlot; split <;> rfl
@[simp] theorem touchSlot_rspLog (sl : Slot) : (touchSlot sl s).rspLog = s.rspLog := by
  unfold touchSlot; split <;> rfl
@[simp] theorem touchSlot_draws (sl : Slot) : (touchSlot sl s).draws = s.draws := by
  unfold touchSlot; split <;> rfl
@[simp] theorem touchSlot_trace (sl : Slot) : (touchSlot sl s).trace = s.trace := by
  unfold touchSlot; split <;> rfl

@[simp] theorem checkDeadline_cfg (sl : Slot) : (checkDeadline sl s).cfg = s.cfg := by
  unfold checkDeadline; split <;> rfl
@[simp] theorem checkDeadline_state (sl : Slot) : (checkDeadline sl s).state = s.state := by
  unfold checkDeadline; split <;> rfl
@[simp] theorem checkDeadline_cursor (sl : Slot) : (checkDeadline sl s).cursor = s.cursor := by
  unfold checkDeadline; split <;> rfl
@[simp] theorem checkDeadline_q (sl : Slot) : (checkDeadline sl s).q = s.q := by
  unfold checkDeadline; split <;> rfl
@[simp] theorem checkDeadline_pix (sl : Slot) : (checkDeadline sl s).pix = s.pix := by
  unfold checkDeadline; split <;> rfl
@[simp] theorem checkDeadline_hostCmd (sl : Slot) : (checkDeadline sl s).hostCmd = s.hostCmd := by
  unfold checkDeadline; split <;> rfl
@[simp] theorem checkDeadline_xc (sl : Slot) : (checkDeadline sl s).xc = s.xc := by
  unfold checkDeadline; split <;> rfl
@[simp] theorem checkDeadline_rsp (sl : Slot) : (checkDeadline sl s).rsp = s.rsp := by
  unfold checkDeadline; split <;> rfl
@[simp] theorem checkDeadline_xeMode (sl : Slot) : (checkDeadline sl s).xeMode = s.xeMode := by
  unfold checkDeadline; split <;> rfl
@[simp] theorem checkDeadline_rp (sl : Slot) : (checkDeadline sl s).rp = s.rp := by
  unfold checkDeadline; split <;> rfl
@[simp] theorem checkDeadline_pend (sl : Slot) : (checkDeadline sl s).pend = s.pend := by
  unfold checkDeadline; split <;> rfl
@[simp] theorem checkDeadline_line (sl : Slot) : (checkDeadline sl s).line = s.line := by
  unfold checkDeadline; split <;> rfl
@[simp] theorem checkDeadline_wave (sl : Slot) : (checkDeadline sl s).wave = s.wave := by
  unfold checkDeadline; split <;> rfl
@[simp] theorem checkDeadline_lowRun (sl : Slot) : (checkDeadline sl s).lowRun = s.lowRun := by
  unfold checkDeadline; split <;> rfl
@[simp] theorem checkDeadline_periods (sl : Slot) : (checkDeadline sl s).periods = s.periods := by
  unfold checkDeadline; split <;> rfl
@[simp] theorem checkDeadline_delay (sl : Slot) : (checkDeadline sl s).delay = s.delay := by
  unfold checkDeadline; split <;> rfl
@[simp] theorem checkDeadline_dataSeen (sl : Slot) : (checkDeadline sl s).dataSeen = s.dataSeen := by
  unfold checkDeadline; split <;> rfl
@[simp] theorem checkDeadline_torn (sl : Slot) :
    (checkDeadline sl s).torn = (s.torn || (late s && !overlaps sl s)) := by
  unfold checkDeadline; split <;> simp_all [recordTorn]
@[simp] theorem checkDeadline_hazards (sl : Slot) :
    (checkDeadline sl s).hazards = s.hazards ++
      (if late s && !overlaps sl s then [.tornWrite] else []) := by
  unfold checkDeadline; split <;> simp [recordTorn]
@[simp] theorem checkDeadline_xcLog (sl : Slot) : (checkDeadline sl s).xcLog = s.xcLog := by
  unfold checkDeadline; split <;> rfl
@[simp] theorem checkDeadline_rspLog (sl : Slot) : (checkDeadline sl s).rspLog = s.rspLog := by
  unfold checkDeadline; split <;> rfl
@[simp] theorem checkDeadline_draws (sl : Slot) : (checkDeadline sl s).draws = s.draws := by
  unfold checkDeadline; split <;> rfl
@[simp] theorem checkDeadline_trace (sl : Slot) : (checkDeadline sl s).trace = s.trace := by
  unfold checkDeadline; split <;> rfl

@[simp] theorem encodeFrame_cfg (p : Pixel) (sl : Slot) :
    (encodeFrame p sl s).cfg = s.cfg := by
  simp [encodeFrame]
@[simp] theorem encodeFrame_state (p : Pixel) (sl : Slot) :
    (encodeFrame p sl s).state = s.state := by
  simp [encodeFrame]
@[simp] theorem encodeFrame_cursor (p : Pixel) (sl : Slot) :
    (encodeFrame p sl s).cursor = s.cursor := by
  simp [encodeFrame]
@[simp] theorem encodeFrame_q (p : Pixel) (sl : Slot) :
    (encodeFrame p sl s).q = frameInto s.cfg p (slotBase sl) s.q := by
  simp [encodeFrame]
@[simp] theorem encodeFrame_pix (p : Pixel) (sl : Slot) :
    (encodeFrame p sl s).pix = s.pix := by
  simp [encodeFrame]
@[simp] theorem encodeFrame_hostCmd (p : Pixel) (sl : Slot) :
    (encodeFrame p sl s).hostCmd = s.hostCmd := by
  simp [encodeFrame]
@[simp] theorem encodeFrame_xc (p : Pixel) (sl : Slot) :
    (encodeFrame p sl s).xc = s.xc := by
  simp [encodeFrame]
@[simp] theorem encodeFrame_rsp (p : Pixel) (sl : Slot) :
    (encodeFrame p sl s).rsp = s.rsp := by
  simp [encodeFrame]
@[simp] theorem encodeFrame_xeMode (p : Pixel) (sl : Slot) :
    (encodeFrame p sl s).xeMode = s.xeMode := by
  simp [encodeFrame]
@[simp] theorem encodeFrame_rp (p : Pixel) (sl : Slot) :
    (encodeFrame p sl s).rp = s.rp := by
  simp [encodeFrame]
@[simp] theorem encodeFrame_pend (p : Pixel) (sl : Slot) :
    (encodeFrame p sl s).pend = s.pend := by
  simp [encodeFrame]
@[simp] theorem encodeFrame_line (p : Pixel) (sl : Slot) :
    (encodeFrame p sl s).line = s.line := by
  simp [encodeFrame]
@[simp] theorem encodeFrame_wave (p : Pixel) (sl : Slot) :
    (encodeFrame p sl s).wave = s.wave := by
  simp [encodeFrame]
@[simp] theorem encodeFrame_lowRun (p : Pixel) (sl : Slot) :
    (encodeFrame p sl s).lowRun = s.lowRun := by
  simp [encodeFrame]
@[simp] theorem encodeFrame_periods (p : Pixel) (sl : Slot) :
    (encodeFrame p sl s).periods = s.periods := by
  simp [encodeFrame]
@[simp] theorem encodeFrame_delay (p : Pixel) (sl : Slot) :
    (encodeFrame p sl s).delay = s.delay := by
  simp [encodeFrame]
@[simp] theorem encodeFrame_dataSeen (p : Pixel) (sl : Slot) :
    (encodeFrame p sl s).dataSeen = s.dataSeen := by
  simp [encodeFrame]
@[simp] theorem encodeFrame_torn (p : Pixel) (sl : Slot) :
    (encodeFrame p sl s).torn = (s.torn || overlaps sl s) := by
  simp [encodeFrame]
@[simp] theorem encodeFrame_hazards (p : Pixel) (sl : Slot) :
    (encodeFrame p sl s).hazards = s.hazards ++ (if overlaps sl s then [.tornWrite] else []) := by
  simp [encodeFrame]
@[simp] theorem encodeFrame_xcLog (p : Pixel) (sl : Slot) :
    (encodeFrame p sl s).xcLog = s.xcLog := by
  simp [encodeFrame]
@[simp] theorem encodeFrame_rspLog (p : Pixel) (sl : Slot) :
    (encodeFrame p sl s).rspLog = s.rspLog := by
  simp [encodeFrame]
@[simp] theorem encodeFrame_draws (p : Pixel) (sl : Slot) :
    (encodeFrame p sl s).draws = s.draws := by
  simp [encodeFrame]
@[simp] theorem encodeFrame_trace (p : Pixel) (sl : Slot) :
    (encodeFrame p sl s).trace = s.trace := by
  simp [encodeFrame]

@[simp] theorem encodeReset_cfg (sl : Slot) :
    (encodeReset sl s).cfg = s.cfg := by
  simp [encodeReset]
@[simp] theorem encodeReset_state (sl : Slot) :
    (encodeReset sl s).state = s.state := by
  simp [encodeReset]
@[simp] theorem encodeReset_cursor (sl : Slot) :
    (encodeReset sl s).cursor = s.cursor := by
  simp [encodeReset]
@[simp] theorem encodeReset_q (sl : Slot) :
    (encodeReset sl s).q = writeRun s.q (slotBase sl) (List.replicate frameLen offCode) := by
  simp [encodeReset]
@[simp] theorem encodeReset_pix (sl : Slot) :
    (encodeReset sl s).pix = s.pix := by
  simp [encodeReset]
@[simp] theorem encodeReset_hostCmd (sl : Slot) :
    (encodeReset sl s).hostCmd = s.hostCmd := by
  simp [encodeReset]
@[simp] theorem encodeReset_xc (sl : Slot) :
    (encodeReset sl s).xc = s.xc := by
  simp [encodeReset]
@[simp] theorem encodeReset_rsp (sl : Slot) :
    (encodeReset sl s).rsp = s.rsp := by
  simp [encodeReset]
@[simp] theorem encodeReset_xeMode (sl : Slot) :
    (encodeReset sl s).xeMode = s.xeMode := by
  simp [encodeReset]
@[simp] theorem encodeReset_rp (sl : Slot) :
    (encodeReset sl s).rp = s.rp := by
  simp [encodeReset]
@[simp] theorem encodeReset_pend (sl : Slot) :
    (encodeReset sl s).pend = s.pend := by
  simp [encodeReset]
@[simp] theorem encodeReset_line (sl : Slot) :
    (encodeReset sl s).line = s.line := by
  simp [encodeReset]
@[simp] theorem encodeReset_wave (sl : Slot) :
    (encodeReset sl s).wave = s.wave := by
  simp [encodeReset]
@[simp] theorem encodeReset_lowRun (sl : Slot) :
    (encodeReset sl s).lowRun = s.lowRun := by
  simp [encodeReset]
@[simp] theorem encodeReset_periods (sl : Slot) :
    (encodeReset sl s).periods = s.periods := by
  simp [encodeReset]
@[simp] theorem encodeReset_delay (sl : Slot) :
    (encodeReset sl s).delay = s.delay := by
  simp [encodeReset]
@[simp] theorem encodeReset_dataSeen (sl : Slot) :
    (encodeReset sl s).dataSeen = s.dataSeen := by
  simp [encodeReset]
@[simp] theorem encodeReset_torn (sl : Slot) :
    (encodeReset sl s).torn = (s.torn || overlaps sl s) := by
  simp [encodeReset]
@[simp] theorem encodeReset_hazards (sl : Slot) :
    (encodeReset sl s).hazards = s.hazards ++ (if overlaps sl s then [.tornWrite] else []) := by
  simp [encodeReset]
@[simp] theorem encodeReset_xcLog (sl : Slot) :
    (encodeReset sl s).xcLog = s.xcLog := by
  simp [encodeReset]
@[simp] theorem encodeReset_rspLog (sl : Slot) :
    (encodeReset sl s).rspLog = s.rspLog := by
  simp [encodeReset]
@[simp] theorem encodeReset_draws (sl : Slot) :
    (encodeReset sl s).draws = s.draws := by
  simp [encodeReset]
@[simp] theorem encodeReset_trace (sl : Slot) :
    (encodeReset sl s).trace = s.trace := by
  simp [encodeReset]

@[simp] theorem checkLatch_cfg : (checkLatch s).cfg = s.cfg := by
  unfold checkLatch; split <;> rfl
@[simp] theorem checkLatch_state : (checkLatch s).state = s.state := by
  unfold checkLatch; split <;> rfl
@[simp] theorem checkLatch_cursor : (checkLatch s).cursor = s.cursor := by
  unfold checkLatch; split <;> rfl
@[simp] theorem checkLatch_q : (checkLatch s).q = s.q := by
  unfold checkLatch; split <;> rfl
@[simp] theorem checkLatch_pix : (checkLatch s).pix = s.pix := by
  unfold checkLatch; split <;> rfl
@[simp] theorem checkLatch_hostCmd : (checkLatch s).hostCmd = s.hostCmd := by
  unfold checkLatch; split <;> rfl
@[simp] theorem checkLatch_xc : (checkLatch s).xc = s.xc := by
  unfold checkLatch; split <;> rfl
@[simp] theorem checkLatch_rsp : (checkLatch s).rsp = s.rsp := by
  unfold checkLatch; split <;> rfl
@[simp] theorem checkLatch_xeMode : (checkLatch s).xeMode = s.xeMode := by
  unfold checkLatch; split <;> rfl
@[simp] theorem checkLatch_rp : (checkLatch s).rp = s.rp := by
  unfold checkLatch; split <;> rfl
@[simp] theorem checkLatch_pend : (checkLatch s).pend = s.pend := by
  unfold checkLatch; split <;> rfl
@[simp] theorem checkLatch_line : (checkLatch s).line = s.line := by
  unfold checkLatch; split <;> rfl
@[simp] theorem checkLatch_wave : (checkLatch s).wave = s.wave := by
  unfold checkLatch; split <;> rfl
@[simp] theorem checkLatch_lowRun : (checkLatch s).lowRun = s.lowRun := by
  unfold checkLatch; split <;> rfl
@[simp] theorem checkLatch_periods : (checkLatch s).periods = s.periods := by
  unfold checkLatch; split <;> rfl
@[simp] theorem checkLatch_delay : (checkLatch s).delay = s.delay := by
  unfold checkLatch; split <;> rfl
@[simp] theorem checkLatch_dataSeen : (checkLatch s).dataSeen = s.dataSeen := by
  unfold checkLatch; split <;> rfl
@[simp] theorem checkLatch_torn : (checkLatch s).torn = s.torn := by
  unfold checkLatch; split <;> rfl
@[simp] theorem checkLatch_hazards :
    (checkLatch s).hazards = s.hazards ++ (if latchTooShort s then [.shortLatch] else []) := by
  unfold checkLatch; split <;> simp
@[simp] theorem checkLatch_xcLog : (checkLatch s).xcLog = s.xcLog := by
  unfold checkLatch; split <;> rfl
@[simp] theorem checkLatch_rspLog : (checkLatch s).rspLog = s.rspLog := by
  unfold checkLatch; split <;> rfl
@[simp] theorem checkLatch_draws : (checkLatch s).draws = s.draws := by
  unfold checkLatch; split <;> rfl
@[simp] theorem checkLatch_trace : (checkLatch s).trace = s.trace := by
  unfold checkLatch; split <;> rfl

/-- Whether a slot overlaps the engine's pointer is a matter of the engine alone. -/
theorem overlaps_congr (sl : Slot) (s t : State) (hm : t.xeMode = s.xeMode) (hr : t.rp = s.rp) :
    overlaps sl t = overlaps sl s := by
  simp [overlaps, hm, hr]

/-- No update but the engine's own moves the pointer or the mode, so none changes whether a slot overlaps. -/
@[simp] theorem overlaps_setState (sl : Slot) (l : Lifecycle) : overlaps sl (setState l s) = overlaps sl s := rfl
@[simp] theorem overlaps_setCursor (sl : Slot) (v : CursorWord) : overlaps sl (setCursor v s) = overlaps sl s := rfl
@[simp] theorem overlaps_emit (sl : Slot) (c : XferCmd) : overlaps sl (emit c s) = overlaps sl s := rfl
@[simp] theorem overlaps_clearTorn (sl : Slot) : overlaps sl (clearTorn s) = overlaps sl s := rfl
@[simp] theorem overlaps_checkDeadline (sl sl' : Slot) :
    overlaps sl (checkDeadline sl' s) = overlaps sl s := overlaps_congr _ _ _ (by simp) (by simp)
@[simp] theorem late_setState (l : Lifecycle) : late (setState l s) = late s := rfl
@[simp] theorem late_setCursor (v : CursorWord) : late (setCursor v s) = late s := rfl
@[simp] theorem late_emit (c : XferCmd) : late (emit c s) = late s := rfl
@[simp] theorem overlaps_encodeFrame (sl sl' : Slot) (p : Pixel) :
    overlaps sl (encodeFrame p sl' s) = overlaps sl s := overlaps_congr _ _ _ (by simp) (by simp)
@[simp] theorem overlaps_encodeReset (sl sl' : Slot) :
    overlaps sl (encodeReset sl' s) = overlaps sl s := overlaps_congr _ _ _ (by simp) (by simp)

/-- `andThen` answers a next state exactly where its first part does. -/
theorem andThen_eq_next (o : Out) (f : State → State) (t : State) :
    andThen o f = .next t ↔ ∃ u, o = .next u ∧ t = f u := by
  cases o <;> simp [andThen, eq_comm]

end Sys2Proof.Machine
end

