-- ==== Sys2Proof/Laws/Engine.lean ====
section
/-!
SUPPORT. Laws/Engine.lean: what one carrier period and one environment action can do (60_exceptions R148 to R154).
-/

namespace Sys2Proof.Machine

/-- What `boundary` leaves alone. -/
theorem boundary_frame (k : ProgressKind) (s : State) :
    (boundary k s).cfg = s.cfg ∧ (boundary k s).state = s.state ∧ (boundary k s).cursor = s.cursor ∧
      (boundary k s).q = s.q ∧ (boundary k s).pix = s.pix ∧ (boundary k s).rp = s.rp ∧
      (boundary k s).wave = s.wave ∧ (boundary k s).torn = s.torn ∧
      (boundary k s).hazards = s.hazards ∧ (boundary k s).trace = s.trace ∧ (boundary k s).xc = s.xc ∧
      (boundary k s).rsp = s.rsp ∧ (boundary k s).hostCmd = s.hostCmd ∧ (boundary k s).lowRun = s.lowRun ∧
      (boundary k s).dataSeen = s.dataSeen ∧ (boundary k s).xcLog = s.xcLog ∧ (boundary k s).rspLog = s.rspLog ∧
      (boundary k s).draws = s.draws ∧ (boundary k s).periods = s.periods ∧ (boundary k s).delay = s.delay := by
  unfold boundary
  split <;> simp

/-- When a start records `ShortLatch` (60_exceptions R152). -/
theorem latchTooShort_iff (s : State) :
    latchTooShort s = true ↔
      (s.dataSeen = true ∨ s.xeMode ≠ .stopped) ∧ s.lowRun * s.cfg.carrierNs < 50000 := by
  rw [latchTooShort, latchNeeded, Bool.and_eq_true, Bool.or_eq_true, decide_eq_true_eq, decide_eq_true_eq]; rfl

/-- At most one signal is raised at the end of a carrier period (60_exceptions R149). -/
theorem atBoundary_pend_length (s : State) : (atBoundary s).pend.length ≤ s.pend.length + 1 := by
  unfold atBoundary boundary
  split_ifs
  · split <;> simp
  · split <;> simp
  · simp

/-- A carrier period of an engine that is not stopped (60_exceptions R148). -/
theorem xeTick_enabled (s : State) (h : s.xeMode ≠ .stopped) :
    xeTick s = atBoundary (advancePointer (emitPeriod (copiedCode s) (copyCode (copiedCode s) s))) := by
  rw [xeTick, if_neg h, xeTickEnabled]

/-- What the end of a carrier period leaves alone. -/
theorem atBoundary_frame (s : State) :
    (atBoundary s).cfg = s.cfg ∧ (atBoundary s).state = s.state ∧ (atBoundary s).cursor = s.cursor ∧
      (atBoundary s).q = s.q ∧ (atBoundary s).pix = s.pix ∧ (atBoundary s).rp = s.rp ∧
      (atBoundary s).wave = s.wave ∧ (atBoundary s).torn = s.torn ∧
      (atBoundary s).hazards = s.hazards ∧ (atBoundary s).trace = s.trace ∧ (atBoundary s).xc = s.xc ∧
      (atBoundary s).rsp = s.rsp ∧ (atBoundary s).hostCmd = s.hostCmd ∧ (atBoundary s).lowRun = s.lowRun ∧
      (atBoundary s).dataSeen = s.dataSeen ∧ (atBoundary s).xcLog = s.xcLog ∧ (atBoundary s).rspLog = s.rspLog ∧
      (atBoundary s).draws = s.draws ∧ (atBoundary s).periods = s.periods ∧ (atBoundary s).delay = s.delay := by
  unfold atBoundary
  split_ifs
  · exact boundary_frame _ _
  · exact boundary_frame _ _
  · simp

/-- Inside a half nothing is raised and the engine goes on (60_exceptions R148). -/
theorem atBoundary_inside (s : State) (h1 : s.rp.val ≠ 24) (h2 : s.rp.val ≠ 0) : atBoundary s = s := by
  rw [atBoundary, if_neg (fun h => h1 (by rw [h]; rfl)), if_neg (fun h => h2 (by rw [h]; rfl))]

/-- At the end of slot 0 (60_exceptions R148). -/
theorem atBoundary_half (s : State) (h : s.rp.val = 24) : atBoundary s = boundary .half s := by
  rw [atBoundary, if_pos (Fin.ext h)]

/-- At the end of slot 1 (60_exceptions R148). -/
theorem atBoundary_full (s : State) (h : s.rp.val = 0) : atBoundary s = boundary .full s := by
  rw [atBoundary, if_neg (fun h' => by rw [h'] at h; exact absurd h (by decide)), if_pos (Fin.ext h)]

/-- A carrier period touches nothing of the block (00_scope R12, 20_memory R47). -/
theorem xeTick_block (s : State) :
    (xeTick s).cfg = s.cfg ∧ (xeTick s).state = s.state ∧ (xeTick s).cursor = s.cursor ∧ (xeTick s).q = s.q ∧
      (xeTick s).pix = s.pix := by
  by_cases h : s.xeMode = .stopped
  · simp [xeTick, h]
  · simp [xeTick_enabled s h, atBoundary_frame]

/-- A carrier period raises at most one signal. -/
theorem xeTick_pend_length (s : State) : (xeTick s).pend.length ≤ s.pend.length + 1 := by
  by_cases h : s.xeMode = .stopped
  · simp [xeTick, h]
  · rw [xeTick_enabled s h]
    exact le_trans (atBoundary_pend_length _) (by simp)

/-- Everything `fetch` can answer, with the state it leaves (60_exceptions R135, R136, R138). -/
theorem fetch_cases (s : State) :
    (∃ c, s.xc = c ∧ c ≠ .none ∧ fetch s = .word (.xctl (xferWord c)) { s with xc := .none }) ∨
    (s.xc = .none ∧ ∃ r, s.rsp = some r ∧
      fetch s = .word (.rsp (resultWord r.code) r.val) { s with rsp := none }) ∨
    (s.xc = .none ∧ s.rsp = none ∧ ∃ k ks, s.cfg.delivery = .prompt ∧ s.pend = k :: ks ∧
      fetch s = .word (.prog (progressWord k.kind)) (deliverOldest k ks s)) ∨
    (s.xc = .none ∧ s.rsp = none ∧ (s.cfg.delivery = .prompt → s.pend = []) ∧ fetch s = fetchCommand s) := by
  rcases s with ⟨cfg, st, cu, q, pix, hc, xc, rsp, xm, rp, pend, ln, wv, lr, ds, tn, pd, dl, hz, xl, rl, dr, tr⟩
  cases xc
  · cases rsp with
    | some r => exact .inr (.inl ⟨rfl, r, rfl, rfl⟩)
    | none =>
      rcases hd : cfg.delivery
      · cases pend with
        | nil => exact .inr (.inr (.inr ⟨rfl, rfl, fun _ => rfl, by simp [fetch, fetchResponse, fetchSignal, hd]⟩))
        | cons k ks =>
          exact .inr (.inr (.inl ⟨rfl, rfl, k, ks, rfl, rfl, by simp [fetch, fetchResponse, fetchSignal, hd]⟩))
      · exact .inr (.inr (.inr ⟨rfl, rfl, by simp, by simp [fetch, fetchResponse, fetchSignal, hd]⟩))
  all_goals exact .inl ⟨_, rfl, by simp, rfl⟩

/-- Everything `fetchCommand` can answer (60_exceptions R136, 30_encoding R73). -/
theorem fetchCommand_cases (s : State) :
    (∃ c, s.hostCmd = some c ∧ fetchCommand s = .word (.host c) { s with hostCmd := none }) ∨
    (s.hostCmd = none ∧
      ((s.trace = [] ∧ fetchCommand s = .nothing) ∨
       (∃ c rest, s.trace = .host c :: rest ∧ fetchCommand s = .word (.host c) { s with trace := rest }) ∨
       (∃ pk rest, s.trace = .progress pk :: rest ∧
          fetchCommand s = .word (.prog pk) (deliver pk { s with trace := rest })) ∨
       (∃ c pk rest, s.trace = .together c pk :: rest ∧
          fetchCommand s = .word (.prog pk) (deliver pk { s with trace := rest, hostCmd := some c })) ∨
       (∃ e rest, s.trace = .env e :: rest ∧ fetchCommand s = .action e { s with trace := rest }))) := by
  rcases s with ⟨cfg, st, cu, q, pix, hc, xc, rsp, xm, rp, pend, ln, wv, lr, ds, tn, pd, dl, hz, xl, rl, dr, tr⟩
  cases hc with
  | some c => exact .inl ⟨c, rfl, rfl⟩
  | none =>
    refine .inr ⟨rfl, ?_⟩
    rcases tr with _ | ⟨a, rest⟩
    · exact .inl ⟨rfl, rfl⟩
    · refine .inr ?_
      cases a with
      | host c => exact .inl ⟨c, rest, rfl, rfl⟩
      | progress pk => exact .inr (.inl ⟨pk, rest, rfl, rfl⟩)
      | together c pk => exact .inr (.inr (.inl ⟨c, pk, rest, rfl, rfl⟩))
      | env e => exact .inr (.inr (.inr ⟨e, rest, rfl, rfl⟩))

/-- A delivery changes `pend` and `delay` only, and never makes `pend` longer (60_exceptions R135). -/
theorem deliver_frame (pk : BitVec 2) (s : State) :
    ∃ ks d, deliver pk s = { s with pend := ks, delay := d } ∧ ks.length ≤ s.pend.length := by
  unfold deliver
  cases hp : s.pend with
  | nil => exact ⟨[], none, by simp [← hp], by simp⟩
  | cons k ks =>
    dsimp only
    split_ifs
    · exact ⟨ks, _, rfl, by simp⟩
    · exact ⟨k :: ks, none, by simp [← hp], by simp⟩

end Sys2Proof.Machine
end

