-- ==== Sys2Proof/Laws/Memory.lean ====
section
/-!
SUPPORT. Laws/Memory.lean: the laws of the Pixel Store: read after write, and every write keeps the canonical form and
the store's bounds.
-/

namespace Sys2Proof.Machine

/-- What the bound of `memWfAbove` asks of an address. -/
def aboveBound (lo : Option Nat) (x : Nat) : Prop := ∀ l, lo = some l → l < x

@[simp] theorem aboveBound_none (x : Nat) : aboveBound none x := by simp [aboveBound]

@[simp] theorem aboveBound_some (l x : Nat) : aboveBound (some l) x ↔ l < x := by simp [aboveBound]

theorem memWfAbove_cons (lo : Option Nat) (a : Nat) (v : Byte) (m : Memory) :
    memWfAbove lo ((a, v) :: m) = true ↔ aboveBound lo a ∧ v ≠ 0 ∧ memWfAbove (some a) m = true := by
  cases lo <;> simp [memWfAbove, aboveBound, and_assoc]

theorem byteAt_nil (x : Nat) : byteAt [] x = 0 := rfl

theorem byteAt_cons (a : Nat) (v : Byte) (m : Memory) (x : Nat) :
    byteAt ((a, v) :: m) x = if x = a then v else byteAt m x := rfl

/-- A list that is canonical above a bound reads 0 at and below it. -/
theorem byteAt_of_memWfAbove (m : Memory) :
    ∀ (l x : Nat), memWfAbove (some l) m = true → x ≤ l → byteAt m x = 0 := by
  induction m with
  | nil => intros; rfl
  | cons c m ih =>
    obtain ⟨a, v⟩ := c
    intro l x h hx
    obtain ⟨hl, -, hm⟩ := (memWfAbove_cons _ _ _ _).1 h
    rw [aboveBound_some] at hl
    rw [byteAt_cons, if_neg (by omega), ih a x hm (by omega)]

/-- A read after a write gives the value written at its address, and the old value elsewhere. -/
theorem byteAt_putByte_above (m : Memory) : ∀ (lo : Option Nat), memWfAbove lo m = true →
    ∀ (x : Nat) (v : Byte) (y : Nat), byteAt (putByte m x v) y = if y = x then v else byteAt m y := by
  induction m with
  | nil =>
    intro lo _ x v y
    rw [putByte]
    split
    · rename_i hv
      simp [byteAt_nil, hv]
    · rfl
  | cons c m ih =>
    obtain ⟨a, w⟩ := c
    intro lo h x v y
    obtain ⟨-, -, hm⟩ := (memWfAbove_cons _ _ _ _).1 h
    rw [putByte]
    split
    · rename_i hxa
      have hx0 : byteAt ((a, w) :: m) x = 0 := by
        rw [byteAt_cons, if_neg (by omega), byteAt_of_memWfAbove m a x hm (by omega)]
      split
      · rename_i hv
        by_cases hy : y = x
        · rw [if_pos hy, hy, hx0, hv]
        · rw [if_neg hy]
      · rfl
    · split
      · rename_i hxa
        subst hxa
        have hx0 : byteAt m x = 0 := byteAt_of_memWfAbove m x x hm le_rfl
        split
        · rename_i hv
          by_cases hy : y = x
          · rw [if_pos hy, hy, hx0, hv]
          · rw [if_neg hy, byteAt_cons, if_neg hy]
        · by_cases hy : y = x <;> simp [byteAt_cons, hy]
      · rename_i h1 h2
        rw [byteAt_cons, byteAt_cons, ih _ hm]
        by_cases hy : y = a
        · subst hy; simp [Ne.symm h2]
        · simp [hy]

/-- A write above the bound keeps the canonical form above it. -/
theorem memWfAbove_putByte (m : Memory) : ∀ (lo : Option Nat), memWfAbove lo m = true → ∀ (x : Nat) (v : Byte),
    aboveBound lo x → memWfAbove lo (putByte m x v) = true := by
  induction m with
  | nil =>
    intro lo _ x v hx
    rw [putByte]
    split
    · rfl
    · rename_i hv
      rw [memWfAbove_cons]; exact ⟨hx, hv, rfl⟩
  | cons c m ih =>
    obtain ⟨a, w⟩ := c
    intro lo h x v hx
    obtain ⟨ha, hw, hm⟩ := (memWfAbove_cons _ _ _ _).1 h
    rw [putByte]
    split
    · split
      · exact h
      · rename_i hxa hv
        rw [memWfAbove_cons, memWfAbove_cons]
        exact ⟨hx, hv, (aboveBound_some _ _).2 hxa, hw, hm⟩
    · split
      · rename_i hxa
        split
        · cases m with
          | nil => rfl
          | cons d m =>
            obtain ⟨b, u⟩ := d
            rw [memWfAbove_cons, aboveBound_some] at hm
            rw [memWfAbove_cons]
            exact ⟨fun l hl => lt_trans (ha l hl) hm.1, hm.2⟩
        · rename_i hv
          rw [memWfAbove_cons]
          exact ⟨ha, hv, hm⟩
      · rw [memWfAbove_cons]
        exact ⟨ha, hw, ih _ hm x v (by rw [aboveBound_some]; omega)⟩

/-- Every write keeps the canonical form. -/
theorem wf_putByte (m : Memory) (h : Memory.wf m = true) (x : Nat) (v : Byte) : Memory.wf (putByte m x v) = true :=
  memWfAbove_putByte m none h x v (aboveBound_none x)

theorem memWithin_cons (bytes a : Nat) (v : Byte) (m : Memory) :
    memWithin bytes ((a, v) :: m) = true ↔ a < bytes ∧ memWithin bytes m = true := by
  simp [memWithin]

/-- Every write inside the store keeps it inside its bounds. -/
theorem memWithin_putByte (bytes : Nat) (m : Memory) (h : memWithin bytes m = true) (x : Nat) (v : Byte)
    (hx : x < bytes) : memWithin bytes (putByte m x v) = true := by
  induction m with
  | nil =>
    rw [putByte]
    split
    · rfl
    · rw [memWithin_cons]; exact ⟨hx, rfl⟩
  | cons c m ih =>
    obtain ⟨a, w⟩ := c
    have hc := (memWithin_cons _ _ _ _).1 h
    rw [putByte]
    repeat' split
    · exact h
    · rw [memWithin_cons]; exact ⟨hx, h⟩
    · exact hc.2
    · rw [memWithin_cons]; exact hc
    · rw [memWithin_cons]; exact ⟨hc.1, ih hc.2⟩

/-- A canonical store reads back what was written, and every other byte as before. -/
theorem byteAt_putByte (m : Memory) (h : Memory.wf m = true) (x : Nat) (v : Byte) (y : Nat) :
    byteAt (putByte m x v) y = if y = x then v else byteAt m y := byteAt_putByte_above m none h x v y

theorem wf_putPixel (m : Memory) (h : Memory.wf m = true) (i : Nat) (p : Pixel) : Memory.wf (putPixel m i p) = true :=
  wf_putByte _ (wf_putByte _ (wf_putByte _ h _ _) _ _) _ _

theorem memWithin_putPixel (n : Nat) (m : Memory) (h : memWithin (3 * n) m = true) (i : Nat) (p : Pixel)
    (hi : i < n) : memWithin (3 * n) (putPixel m i p) = true :=
  memWithin_putByte _ _ (memWithin_putByte _ _ (memWithin_putByte _ _ h _ _ (by omega)) _ _ (by omega)) _ _ (by omega)

/-- One byte after a pixel has been written (20_memory R43). -/
theorem byteAt_putPixel (m : Memory) (h : Memory.wf m = true) (i : Nat) (p : Pixel) (y : Nat) :
    byteAt (putPixel m i p) y =
      if y = 3 * i then p.r else if y = 3 * i + 1 then p.g else if y = 3 * i + 2 then p.b else byteAt m y := by
  rw [putPixel, byteAt_putByte _ (wf_putByte _ (wf_putByte _ h _ _) _ _), byteAt_putByte _ (wf_putByte _ h _ _),
    byteAt_putByte _ h]
  repeat' split
  all_goals first | rfl | omega

/-- A pixel after a pixel has been written (20_memory R42, R43). -/
theorem pixelAt_putPixel (m : Memory) (h : Memory.wf m = true) (i j : Nat) (p : Pixel) :
    pixelAt (putPixel m i p) j = if j = i then p else pixelAt m j := by
  simp only [pixelAt, byteAt_putPixel m h]
  by_cases hj : j = i
  · subst hj
    simp
  · rw [if_neg hj]
    congr 1
    all_goals (repeat' split) <;> first | rfl | omega

theorem wf_zeroPixels (m : Memory) (h : Memory.wf m = true) (n : Nat) : Memory.wf (zeroPixels m n) = true := by
  induction n with
  | zero => exact h
  | succ n ih => exact wf_putPixel _ ih _ _

theorem memWithin_zeroPixels (N : Nat) (m : Memory) (h : memWithin (3 * N) m = true) (n : Nat) (hn : n ≤ N) :
    memWithin (3 * N) (zeroPixels m n) = true := by
  induction n with
  | zero => exact h
  | succ n ih => exact memWithin_putPixel N _ (ih (by omega)) _ _ (by omega)

/-- One byte after the first `n` pixels have been zeroed (42_control_surface R110). -/
theorem byteAt_zeroPixels (m : Memory) (h : Memory.wf m = true) (n y : Nat) :
    byteAt (zeroPixels m n) y = if y < 3 * n then 0 else byteAt m y := by
  induction n with
  | zero => simp [zeroPixels]
  | succ n ih =>
    rw [zeroPixels, byteAt_putPixel _ (wf_zeroPixels m h n), ih]
    repeat' split
    all_goals first | rfl | omega

/-- What `PixRead` answers (20_memory R42, R44). -/
theorem pixRead_eq_some (s : State) (i : Nat) (p : Pixel) :
    pixRead s i = some p ↔ i < s.cfg.n ∧ p = pixelAt s.pix i := by
  simp [pixRead, eq_comm]

theorem pixRead_of_lt (s : State) (i : Nat) (h : i < s.cfg.n) : pixRead s i = some (pixelAt s.pix i) := if_pos h

/-- What `PixWrite` answers where it answers a next state (20_memory R43, R44). -/
theorem pixWrite_eq_next (s t : State) (i : Nat) (p : Pixel) :
    pixWrite i p s = .next t ↔ i < s.cfg.n ∧ t = { s with pix := putPixel s.pix i p } := by
  unfold pixWrite
  split <;> simp_all [eq_comm]

end Sys2Proof.Machine
end

