-- ==== Sys2Proof/Laws/Queue.lean ====
section
/-!
SUPPORT. Laws/Queue.lean: what the encoders leave in the Duty Queue (40_encoders R80 to R83).
-/

namespace Sys2Proof.Machine

/-- A run of writes changes exactly the elements it covers (20_memory R46). -/
theorem getElem_writeRun (q : Vector DutyCode 48) (b : Nat) (cs : List DutyCode) (i : Nat) (h : i < 48) :
    (writeRun q b cs)[i] = if hb : b ≤ i ∧ i < b + cs.length then cs[i - b]'(by omega) else q[i] := by
  induction cs generalizing q b with
  | nil => simp only [writeRun, List.length_nil]; rw [dif_neg (by omega)]
  | cons c cs ih =>
    rw [writeRun, ih]
    by_cases h1 : b + 1 ≤ i ∧ i < b + 1 + cs.length
    · have hi : i - b = (i - (b + 1)) + 1 := by omega
      rw [dif_pos h1, dif_pos (by simp only [List.length_cons]; omega)]
      simp [hi]
    · rw [dif_neg h1, Vector.getElem_setIfInBounds]
      by_cases h2 : b = i
      · subst h2; simp
      · rw [dif_neg (by simp only [List.length_cons]; omega), if_neg h2]

/-- A slot is 24 elements from its base (00_scope section 5). -/
theorem inSlot_iff (sl : Slot) (i : Nat) : inSlot sl i = true ↔ slotBase sl ≤ i ∧ i < slotBase sl + 24 := by
  rw [inSlot, Bool.and_eq_true, decide_eq_true_eq, decide_eq_true_eq]; rfl

/-- A queue index lies in exactly one slot. -/
theorem inSlot_slot1 (i : Nat) (h : i < 48) : inSlot .slot1 i = !inSlot .slot0 i := by
  rw [Bool.eq_iff_iff, Bool.not_eq_true', ← Bool.not_eq_true, inSlot_iff, inSlot_iff]
  simp only [slotBase, frameLen]
  omega

/-- When the refill deadline is missed (70_reset_and_hazards R181). -/
theorem late_iff (s : State) : late s = true ↔ s.xeMode ≠ .stopped ∧ ∃ d, s.delay = some d ∧ 24 ≤ d := by
  rw [late, Bool.and_eq_true, decide_eq_true_eq]
  refine and_congr_right fun _ => ?_
  cases s.delay with
  | none => simp
  | some d => exact decide_eq_true_iff.trans ⟨fun h => ⟨d, rfl, h⟩, fun ⟨_, h, h'⟩ => Option.some.inj h ▸ h'⟩

/-- When the engine stands inside the slot written (70_reset_and_hazards R180). -/
theorem overlaps_iff (sl : Slot) (s : State) :
    overlaps sl s = true ↔ s.xeMode ≠ .stopped ∧ slotBase sl ≤ s.rp.val ∧ s.rp.val ≤ slotBase sl + 23 := by
  rw [overlaps, Bool.and_eq_true, decide_eq_true_eq, inSlot_iff]
  exact and_congr_right fun _ => and_congr_right fun _ => by omega

@[simp] theorem length_channelCodes (c : Config) (v : Byte) : (channelCodes c v).length = 8 := by
  simp [channelCodes]

/-- The `j`-th code of a channel carries bit `7 - j` (30_encoding R68). -/
theorem getElem_channelCodes (c : Config) (v : Byte) (j : Nat) (h : j < (channelCodes c v).length) :
    (channelCodes c v)[j] = code c (v.getLsbD (7 - j)) := by
  rw [length_channelCodes] at h
  interval_cases j <;> rfl

/-- The offsets of an admitted channel order. -/
theorem offsets_cases (c : Config) (h : offsetsPermute c = true) :
    (c.offG = 0 ∧ c.offR = 8 ∧ c.offB = 16) ∨ (c.offG = 0 ∧ c.offR = 16 ∧ c.offB = 8) ∨
    (c.offG = 8 ∧ c.offR = 0 ∧ c.offB = 16) ∨ (c.offG = 8 ∧ c.offR = 16 ∧ c.offB = 0) ∨
    (c.offG = 16 ∧ c.offR = 0 ∧ c.offB = 8) ∨ (c.offG = 16 ∧ c.offR = 8 ∧ c.offB = 0) := by
  simpa [offsetsPermute] using h

/-- An admitted instance has an admitted channel order. -/
theorem offsetsPermute_of_valid (c : Config) (h : validConfig c = true) : offsetsPermute c = true := by
  simp only [validConfig, Bool.and_eq_true] at h
  exact h.1.1.2

/-- What `encode_frame` leaves in the queue (40_encoders R80, R85). -/
theorem getElem_frameInto (c : Config) (ho : offsetsPermute c = true) (p : Pixel) (base : Nat)
    (q : Vector DutyCode 48) (i : Nat) (h : i < 48) :
    (frameInto c p base q)[i] = if base ≤ i ∧ i < base + 24 then frameCode c p (i - base) else q[i] := by
  simp only [frameInto, getElem_writeRun, length_channelCodes, getElem_channelCodes, frameCode]
  rcases offsets_cases c ho with ⟨hg, hr, hb⟩ | ⟨hg, hr, hb⟩ | ⟨hg, hr, hb⟩ | ⟨hg, hr, hb⟩ | ⟨hg, hr, hb⟩ | ⟨hg, hr, hb⟩ <;>
    simp only [hg, hr, hb] <;> split_ifs <;> first | omega | rfl | (congr 2; omega)

/-- What `encode_reset` leaves in the queue (40_encoders R83). -/
theorem getElem_resetRun (base : Nat) (q : Vector DutyCode 48) (i : Nat) (h : i < 48) :
    (writeRun q base (List.replicate frameLen offCode))[i] = if base ≤ i ∧ i < base + 24 then offCode else q[i] := by
  simp only [getElem_writeRun, List.length_replicate, List.getElem_replicate, frameLen]
  split_ifs <;> rfl

theorem frameCode_mem (c : Config) (p : Pixel) (k : Nat) : frameCode c p k = c.zeroCode ∨ frameCode c p k = c.oneCode := by
  have h : ∀ b, code c b = c.zeroCode ∨ code c b = c.oneCode := by intro b; cases b <;> simp [code]
  unfold frameCode
  split_ifs <;> exact h _

/-- The three codes are distinct and ordered (00_scope R9). -/
theorem codes_ordered (c : Config) (h : calibrated c = true) :
    0 < c.zeroCode.toNat ∧ c.zeroCode.toNat < c.oneCode.toNat ∧ c.oneCode.toNat < c.periodTicks := by
  simp only [calibrated, Bool.and_eq_true, decide_eq_true_eq] at h
  omega

end Sys2Proof.Machine
end

