-- ==== Sys2Proof/Laws/Lifecycle.lean ====
section
/-!
SUPPORT. Laws/Lifecycle.lean: everything `start` and `notify` can do, once (41_state_machine R90 to R96).
-/

namespace Sys2Proof.Machine

/-- The bounds of an admitted instance (00_scope R8, R10). -/
theorem bounds_of_valid (c : Config) (h : validConfig c = true) :
    1 ≤ c.n ∧ c.n ≤ 65535 ∧ 1 ≤ c.resetCycles ∧ c.resetCycles ≤ 65535 ∧ latchMinNs ≤ c.resetCycles * frameNs c ∧
      (c.n + c.resetCycles) * frameNs c / 1000 < 2 ^ 31 := by
  simp only [validConfig, latches, Bool.and_eq_true, decide_eq_true_eq] at h
  obtain ⟨⟨⟨⟨⟨h1, h2⟩, -⟩, -⟩, ⟨h3, h4⟩, h5⟩, h6⟩ := h
  exact ⟨h1, h2, h3, h4, h5, h6⟩

/-- An admitted instance is calibrated (00_scope R9). -/
theorem calibrated_of_valid (c : Config) (h : validConfig c = true) : calibrated c = true := by
  simp only [validConfig, Bool.and_eq_true] at h
  exact h.1.1.1.2

/-- `cursor + 1` does not wrap below 65535 (41_state_machine R102). -/
theorem toNat_cursor_succ (v : CursorWord) (h : v.toNat < 65535) : (v + 1).toNat = v.toNat + 1 := by
  rw [BitVec.toNat_add, show (1 : CursorWord).toNat = 1 from rfl]
  omega

/-- `start` with one pixel (41_state_machine R90). -/
theorem start_one (s : State) (h : s.cfg.n = 1) :
    start s = .next (beginCycle 0 .resetting
      (encodeReset .slot1 (encodeFrame (pixelAt s.pix 0) .slot0 (clearTorn s)))) := by
  rw [start, if_neg (by omega), pixRead_of_lt s 0 (by omega)]
  simp only [h, if_true]

/-- `start` with two pixels or more (41_state_machine R90). -/
theorem start_many (s : State) (h : 2 ≤ s.cfg.n) :
    start s = .next (beginCycle 1 .active
      (encodeFrame (pixelAt s.pix 1) .slot1 (encodeFrame (pixelAt s.pix 0) .slot0 (clearTorn s)))) := by
  rw [start, if_neg (by omega), pixRead_of_lt s 0 (by omega), pixRead_of_lt s 1 (by omega)]
  simp only [show ¬ s.cfg.n = 1 by omega, if_false]

/-- Everything `start` can answer. -/
theorem start_cases (s : State) :
    (s.cfg.n = 0 ∧ start s = .refused .emptyPixelStore) ∨
    (s.cfg.n = 1 ∧ start s = .next (beginCycle 0 .resetting
      (encodeReset .slot1 (encodeFrame (pixelAt s.pix 0) .slot0 (clearTorn s))))) ∨
    (2 ≤ s.cfg.n ∧ start s = .next (beginCycle 1 .active
      (encodeFrame (pixelAt s.pix 1) .slot1 (encodeFrame (pixelAt s.pix 0) .slot0 (clearTorn s))))) := by
  by_cases h0 : s.cfg.n = 0
  · exact .inl ⟨h0, by rw [start, if_pos h0]⟩
  · by_cases h1 : s.cfg.n = 1
    · exact .inr (.inl ⟨h1, start_one s h1⟩)
    · exact .inr (.inr ⟨by omega, start_many s (by omega)⟩)

/-- `notify` in `Active` with pixels left (41_state_machine R92). -/
theorem notify_pixel (sl : Slot) (s : State) (hs : s.state = .active) (hn : s.cfg.n ≤ 65535)
    (hc : s.cursor.toNat + 1 < s.cfg.n) :
    notify sl s = .next (encodeFrame (pixelAt s.pix (s.cursor.toNat + 1)) sl
      (checkDeadline sl (setCursor (s.cursor + 1) (emit .none s)))) := by
  have hw := toNat_cursor_succ s.cursor (by omega)
  rw [notify, hs]
  simp only [notifyActive, emit_cursor, emit_cfg, hc, if_true, hw]
  rw [pixRead_of_lt _ _ (by simpa using hc)]
  rfl

/-- `notify` in `Active` with the string streamed (41_state_machine R93). -/
theorem notify_end (sl : Slot) (s : State) (hs : s.state = .active) (hc : ¬ s.cursor.toNat + 1 < s.cfg.n) :
    notify sl s = .next (setState .resetting (encodeReset sl (checkDeadline sl (setCursor 0 (emit .none s))))) := by
  rw [notify, hs]
  simp only [notifyActive, emit_cursor, emit_cfg, hc, if_false]

/-- `notify` in `Resetting` with reset cycles left (41_state_machine R94). -/
theorem notify_reset (sl : Slot) (s : State) (hs : s.state = .resetting)
    (hc : s.cursor.toNat < s.cfg.resetCycles - 1) :
    notify sl s = .next (encodeReset sl (checkDeadline sl (setCursor (s.cursor + 1) (emit .none s)))) := by
  rw [notify, hs]
  simp only [notifyResetting, emit_cursor, emit_cfg, hc, if_true]

/-- `notify` in `Resetting` with the last reset cycle queued (41_state_machine R95). -/
theorem notify_complete (sl : Slot) (s : State) (hs : s.state = .resetting)
    (hc : ¬ s.cursor.toNat < s.cfg.resetCycles - 1) :
    notify sl s = .next (emit .stopAfterHalf (setState .idle (emit .none s))) := by
  rw [notify, hs]
  simp only [notifyResetting, emit_cursor, emit_cfg, hc, if_false]

/-- `notify` in `Idle` (41_state_machine R96). -/
theorem notify_idle (sl : Slot) (s : State) (hs : s.state = .idle) : notify sl s = .next (anomaly s) := by
  rw [notify, hs]

/-- Everything `notify` can answer, for an admitted instance. -/
theorem notify_cases (sl : Slot) (s : State) (hn : s.cfg.n ≤ 65535) :
    (s.state = .active ∧ s.cursor.toNat + 1 < s.cfg.n ∧
      notify sl s = .next (encodeFrame (pixelAt s.pix (s.cursor.toNat + 1)) sl
        (checkDeadline sl (setCursor (s.cursor + 1) (emit .none s))))) ∨
    (s.state = .active ∧ ¬ s.cursor.toNat + 1 < s.cfg.n ∧
      notify sl s = .next (setState .resetting (encodeReset sl (checkDeadline sl (setCursor 0 (emit .none s)))))) ∨
    (s.state = .resetting ∧ s.cursor.toNat < s.cfg.resetCycles - 1 ∧
      notify sl s = .next (encodeReset sl (checkDeadline sl (setCursor (s.cursor + 1) (emit .none s))))) ∨
    (s.state = .resetting ∧ ¬ s.cursor.toNat < s.cfg.resetCycles - 1 ∧
      notify sl s = .next (emit .stopAfterHalf (setState .idle (emit .none s)))) ∨
    (s.state = .idle ∧ notify sl s = .next (anomaly s)) := by
  cases hs : s.state with
  | active =>
    by_cases hc : s.cursor.toNat + 1 < s.cfg.n
    · exact .inl ⟨rfl, hc, notify_pixel sl s hs hn hc⟩
    · exact .inr (.inl ⟨rfl, hc, notify_end sl s hs hc⟩)
  | resetting =>
    by_cases hc : s.cursor.toNat < s.cfg.resetCycles - 1
    · exact .inr (.inr (.inl ⟨rfl, hc, notify_reset sl s hs hc⟩))
    · exact .inr (.inr (.inr (.inl ⟨rfl, hc, notify_complete sl s hs hc⟩)))
  | idle => exact .inr (.inr (.inr (.inr ⟨rfl, notify_idle sl s hs⟩)))

end Sys2Proof.Machine
end

