-- ==== Sys2Proof/Laws/PerInstr.lean ====
section
/-!
SUPPORT. Laws/PerInstr.lean: the family TableRow: every event's encoded word stands in its row of
spec/opcode_table.json: on the row's port, with the row's match under the row's mask.
-/

namespace Sys2Proof.Laws.TableRow

/-- The port word of an event is on port `HOST`, `PROG`, `XCTL` or `RSP` and agrees with its row's mask and match. -/
def Statement (i : Instr) : Prop :=
  match i, encode i with
  | .init, .host w => w &&& 0x7#3 = 0x0#3
  | .update, .host w => w &&& 0x7#3 = 0x1#3
  | .status, .host w => w &&& 0x7#3 = 0x2#3
  | .abort, .host w => w &&& 0x7#3 = 0x3#3
  | .reservedHost _, .host w => w &&& 0x4#3 = 0x4#3
  | .half, .prog w => w &&& 0x3#2 = 0x0#2
  | .full, .prog w => w &&& 0x3#2 = 0x1#2
  | .unrec _, .prog w => w &&& 0x2#2 = 0x2#2
  | .xcNone, .xctl w => w &&& 0x3#2 = 0x0#2
  | .startCircular, .xctl w => w &&& 0x3#2 = 0x1#2
  | .stopAfterHalf, .xctl w => w &&& 0x3#2 = 0x2#2
  | .stopNow, .xctl w => w &&& 0x3#2 = 0x3#2
  | .rspOk v, .rsp w u => w &&& 0x3#2 = 0x0#2 ∧ u = v
  | .rspBusy v, .rsp w u => w &&& 0x3#2 = 0x1#2 ∧ u = v
  | .rspNotRunning v, .rsp w u => w &&& 0x3#2 = 0x2#2 ∧ u = v
  | _, _ => False

theorem init : Statement .init := by simp [Statement, encode]
theorem update : Statement .update := by simp [Statement, encode]
theorem status : Statement .status := by simp [Statement, encode]
theorem abort : Statement .abort := by simp [Statement, encode]
theorem reservedHost (low : BitVec 2) : Statement (.reservedHost low) := by
  revert low; unfold Statement encode; decide
theorem half : Statement .half := by simp [Statement, encode]
theorem full : Statement .full := by simp [Statement, encode]
theorem unrec (k : BitVec 1) : Statement (.unrec k) := by
  revert k; unfold Statement encode; decide
theorem xcNone : Statement .xcNone := by simp [Statement, encode]
theorem startCircular : Statement .startCircular := by simp [Statement, encode]
theorem stopAfterHalf : Statement .stopAfterHalf := by simp [Statement, encode]
theorem stopNow : Statement .stopNow := by simp [Statement, encode]
theorem rspOk (val : RspValue) : Statement (.rspOk val) := by simp [Statement, encode]
theorem rspBusy (val : RspValue) : Statement (.rspBusy val) := by simp [Statement, encode]
theorem rspNotRunning (val : RspValue) : Statement (.rspNotRunning val) := by simp [Statement, encode]

end Sys2Proof.Laws.TableRow
end

