-- ==== Sys2Proof/Laws/Refill.lean ====
section
/-!
SUPPORT. Laws/Refill.lean: a refill fills its slot and leaves the other (20_memory R46; 40_encoders R80, R83).
-/

namespace Sys2Proof.Machine

/-- The Frame Encoder's writes (40_encoders R80). -/
theorem frameInto_slot (c : Config) (ho : offsetsPermute c = true) (p : Pixel) (sl : Slot) (q : Vector DutyCode 48) :
    slotHolds (frameInto c p (slotBase sl) q) sl (frameCode c p) ∧
      sameOutside sl q (frameInto c p (slotBase sl) q) := by
  refine ⟨fun i hi => ?_, fun i hi => ?_⟩
  · rw [inSlot_iff] at hi
    rw [Fin.getElem_fin, getElem_frameInto c ho, if_pos hi]
  · rw [← Bool.not_eq_true, inSlot_iff] at hi
    rw [Fin.getElem_fin, getElem_frameInto c ho, if_neg (by omega)]
    rfl

/-- The Reset Encoder's writes (40_encoders R83). -/
theorem resetRun_slot (sl : Slot) (q : Vector DutyCode 48) :
    slotHolds (writeRun q (slotBase sl) (List.replicate frameLen offCode)) sl (fun _ => offCode) ∧
      sameOutside sl q (writeRun q (slotBase sl) (List.replicate frameLen offCode)) := by
  refine ⟨fun i hi => ?_, fun i hi => ?_⟩
  · rw [inSlot_iff] at hi
    rw [Fin.getElem_fin, getElem_resetRun, if_pos hi]
  · rw [← Bool.not_eq_true, inSlot_iff] at hi
    rw [Fin.getElem_fin, getElem_resetRun, if_neg (by omega)]
    rfl

/-- A refill of slot 1 leaves what slot 0 holds. -/
theorem slotHolds_of_other {q q' : Vector DutyCode 48} {f : Nat → DutyCode} (h : sameOutside .slot1 q q')
    (hh : slotHolds q .slot0 f) : slotHolds q' .slot0 f := by
  intro i hi
  rw [h i (by rw [inSlot_slot1 _ i.2, hi]; rfl), hh i hi]

/-- A torn write is one of the two tests the meanings make (70_reset_and_hazards R180, R181). -/
theorem tornHere_iff (sl : Slot) (s : State) : tornHere sl s ↔ late s = true ∨ overlaps sl s = true := by
  rw [late_iff, overlaps_iff, ← and_or_left, or_comm, tornHere]

end Sys2Proof.Machine
end

