-- ==== Sys2Proof/Laws/Step.lean ====
section
/-!
SUPPORT. Laws/Step.lean: everything `start`, `notify`, an environment action, a fetch and a step can do when they answer
a next state, each said once.
-/

namespace Sys2Proof.Machine

/-- `start` that answers a next state (41_state_machine R90). -/
theorem start_next {s t : State} (h : start s = .next t) :
    t = beginCycle 0 .resetting (encodeReset .slot1 (encodeFrame (pixelAt s.pix 0) .slot0 (clearTorn s))) ∨
    t = beginCycle 1 .active
      (encodeFrame (pixelAt s.pix 1) .slot1 (encodeFrame (pixelAt s.pix 0) .slot0 (clearTorn s))) := by
  rcases start_cases s with ⟨-, h2⟩ | ⟨-, h2⟩ | ⟨-, h2⟩ <;> rw [h2] at h <;> simp at h <;> simp [h]

/-- `notify` that answers a next state, with no premise on the instance (41_state_machine R92 to R96). -/
theorem notify_next {sl : Slot} {s t : State} (h : notify sl s = .next t) :
    (s.state = .active ∧ ∃ p, t = encodeFrame p sl (checkDeadline sl (setCursor (s.cursor + 1) (emit .none s)))) ∨
    (s.state = .active ∧ t = setState .resetting (encodeReset sl (checkDeadline sl (setCursor 0 (emit .none s))))) ∨
    (s.state = .resetting ∧ t = encodeReset sl (checkDeadline sl (setCursor (s.cursor + 1) (emit .none s)))) ∨
    (s.state = .resetting ∧ t = emit .stopAfterHalf (setState .idle (emit .none s))) ∨
    (s.state = .idle ∧ t = anomaly s) := by
  unfold notify at h
  cases hs : s.state <;> rw [hs] at h <;> simp only [notifyActive, notifyResetting] at h
  · simp at h
    simp [h]
  · split_ifs at h
    · split at h
      · simp at h
      · simp at h
        exact .inl ⟨rfl, _, h.symm⟩
    · simp at h
      exact .inr (.inl ⟨rfl, h.symm⟩)
  · split_ifs at h <;> simp at h <;> simp [h]

/-- Everything a step can be when it answers a next state (60_exceptions R138). -/
theorem step_next {s t : State} (h : step s = .next t) :
    validConfig s.cfg = true ∧
      ((∃ w u i, fetch s = .word w u ∧ decode w = .ok i ∧ exec i u = .next t) ∨
       (∃ e u, fetch s = .action e u ∧ envAct e u = .next t) ∨
       (fetch s = .nothing ∧ t = s)) := by
  unfold step at h
  split_ifs at h with hv
  refine ⟨hv, ?_⟩
  split at h
  · rename_i w u hf
    unfold runWord at h
    split at h
    · exact .inl ⟨w, u, _, hf, by assumption, h⟩
    · simp at h
  · exact .inr (.inl ⟨_, _, by assumption, h⟩)
  · simp at h
    exact .inr (.inr ⟨by assumption, h.symm⟩)

/-- What a fetched action takes from the state: the head of the trace, with no prompt signal waiting. -/
theorem fetch_action {s u : State} {e : EnvAction} (h : fetch s = .action e u) :
    ∃ r, u = { s with trace := r } ∧ (s.cfg.delivery = .prompt → s.pend = []) := by
  rcases fetch_cases s with ⟨c, -, -, hf⟩ | ⟨-, r, -, hf⟩ | ⟨-, -, k, ks, -, -, hf⟩ | ⟨-, -, hp, hf⟩ <;>
    rw [hf] at h <;> (try contradiction)
  rcases fetchCommand_cases s with ⟨c, -, hf⟩ |
      ⟨-, ⟨-, hf⟩ | ⟨c, r, -, hf⟩ | ⟨pk, r, -, hf⟩ | ⟨c, pk, r, -, hf⟩ | ⟨e, r, -, hf⟩⟩ <;>
    rw [hf] at h <;> (try contradiction)
  injection h with h1 h2
  exact ⟨r, h2.symm, hp⟩

/-- A fetched word leaves the block, the store and the engine; it never adds a pending signal. -/
theorem fetch_word {s u : State} {w : PortWord} (h : fetch s = .word w u) :
    sameBlock s u ∧ u.xeMode = s.xeMode ∧ u.rp = s.rp ∧ u.wave = s.wave ∧ u.pend.length ≤ s.pend.length := by
  have hd : ∀ pk u0, u = deliver pk u0 → sameBlock s u0 → u0.xeMode = s.xeMode → u0.rp = s.rp → u0.wave = s.wave →
      u0.pend = s.pend →
      sameBlock s u ∧ u.xeMode = s.xeMode ∧ u.rp = s.rp ∧ u.wave = s.wave ∧ u.pend.length ≤ s.pend.length := by
    intro pk u0 hu hb hm hr hw hp
    obtain ⟨ks, dl, h1, h2⟩ := deliver_frame pk u0
    rw [hp] at h2
    rw [hu, h1]
    exact ⟨hb, hm, hr, hw, h2⟩
  rcases fetch_cases s with ⟨c, -, -, hf⟩ | ⟨-, r, -, hf⟩ | ⟨-, -, k, ks, -, hp, hf⟩ | ⟨-, -, -, hf⟩ <;> rw [hf] at h
  · injection h with h1 h2
    subst h2
    simp [sameBlock]
  · injection h with h1 h2
    subst h2
    simp [sameBlock]
  · injection h with h1 h2
    subst h2
    simp [sameBlock, hp, deliverOldest]
  · rcases fetchCommand_cases s with ⟨c, -, hf⟩ |
        ⟨-, ⟨-, hf⟩ | ⟨c, r, -, hf⟩ | ⟨pk, r, -, hf⟩ | ⟨c, pk, r, -, hf⟩ | ⟨e, r, -, hf⟩⟩ <;>
      rw [hf] at h <;> (try contradiction) <;> injection h with h1 h2
    · subst h2
      simp [sameBlock]
    · subst h2
      simp [sameBlock]
    · exact hd pk _ h2.symm ⟨rfl, rfl, rfl, rfl, rfl⟩ rfl rfl rfl rfl
    · exact hd pk _ h2.symm ⟨rfl, rfl, rfl, rfl, rfl⟩ rfl rfl rfl rfl

/-- What an environment action can do to the block's sequencing state and to the pending signals. -/
theorem envAct_next {e : EnvAction} {s t : State} (h : envAct e s = .next t) :
    t.cfg = s.cfg ∧ (t.state = s.state ∧ t.cursor = s.cursor ∨ t.state = .idle) ∧
      t.pend.length ≤ s.pend.length + 1 := by
  cases e with
  | reset =>
    simp [envAct] at h
    subst h
    simp [hardwareReset]
  | pixWrite i p =>
    obtain ⟨-, rfl⟩ := (pixWrite_eq_next s t i p).1 h
    simp
  | tick =>
    simp [envAct] at h
    subst h
    obtain ⟨h1, h2, h3, -⟩ := xeTick_block s
    exact ⟨h1, .inl ⟨h2, h3⟩, xeTick_pend_length s⟩
  | holdLow k =>
    simp [envAct] at h
    subst h
    unfold holdLow
    split <;> simp

/-- One carrier period of a running engine in a cycle that is not torn (60_exceptions R148): signals are only added. -/
theorem xeTick_running {s : State} (h : s.xeMode = .running) (ht : s.torn = false) :
    (xeTick s).xeMode = .running ∧ (xeTick s).torn = false ∧ (xeTick s).rp = s.rp + 1 ∧
      (xeTick s).periods = s.periods + 1 ∧ (xeTick s).hazards = s.hazards ∧ ∃ ks, (xeTick s).pend = s.pend ++ ks := by
  rw [xeTick_enabled s (by simp [h])]
  refine ⟨?_, by simp [atBoundary_frame, ht], by simp [atBoundary_frame], by simp [atBoundary_frame],
    by simp [atBoundary_frame], ?_⟩ <;> unfold atBoundary <;> split_ifs <;> simp [boundary, h]

/-- `d` carrier periods of a running engine in a cycle that is not torn (60_exceptions R148). -/
theorem ticks_running (d : Nat) : ∀ s : State, s.xeMode = .running → s.torn = false →
    (ticks d s).xeMode = .running ∧ (ticks d s).torn = false ∧ (ticks d s).rp.val = (s.rp.val + d) % 48 ∧
      (ticks d s).periods = s.periods + d ∧ (ticks d s).hazards = s.hazards ∧
      (∃ ks, (ticks d s).pend = s.pend ++ ks) ∧ sameBlock s (ticks d s) := by
  induction d with
  | zero =>
    intro s h ht
    exact ⟨h, ht, (Nat.mod_eq_of_lt s.rp.2).symm, rfl, rfl, ⟨[], (List.append_nil _).symm⟩, rfl, rfl, rfl, rfl, rfl⟩
  | succ d ih =>
    intro s h ht
    obtain ⟨hm, hn, hr, hp, hz, ks, hk⟩ := xeTick_running h ht
    obtain ⟨gm, gn, gr, gp, gz, ⟨ks', gk⟩, c1, c2, c3, c4, c5⟩ := ih _ hm hn
    obtain ⟨b1, b2, b3, b4, b5⟩ := xeTick_block s
    refine ⟨gm, gn, ?_, ?_, gz.trans hz, ⟨ks ++ ks', ?_⟩, c1.trans b1, c2.trans b2, c3.trans b3, c4.trans b4,
      c5.trans b5⟩
    · rw [ticks, gr, hr, Fin.val_add]
      simp
      omega
    · rw [ticks, gp, hp, Nat.add_assoc, Nat.add_comm 1]
    · rw [ticks, gk, hk, List.append_assoc]

end Sys2Proof.Machine
end

