-- ==== Sys2Proof/Tests/Slice0.lean ====
section
/-!
SUPPORT. Tests/Slice0.lean: the well-formedness smoke, the code tables of 30_encoding as words written out, the
single-step vectors of 95_test_vectors sections 1 and 2, and for every statement with hypotheses a named state that
meets them all.
-/

namespace Sys2Proof.Tests

open Sys2Proof Sys2Proof.Machine

/-! ### Well-formedness: one ill-formed term for each check, and a well-formed one beside it -/

theorem test_wellFormed_refuses_rspOk_positive : (Instr.rspOk 5).wellFormed = false := by decide

theorem test_wellFormed_refuses_rspBusy_value : (Instr.rspBusy 1).wellFormed = false := by decide

theorem test_wellFormed_refuses_rspNotRunning_value : (Instr.rspNotRunning 1).wellFormed = false := by decide

theorem test_wellFormed_admits_rspOk_negative : (Instr.rspOk (-120)).wellFormed = true := by decide

theorem test_decode_refuses_illFormed : decode (.rsp 0b00#2 5) = .error .rspValueNeverProduced := by rfl

theorem test_decode_refuses_busy_value : decode (.rsp 0b01#2 1) = .error .rspValueNeverProduced := by rfl

/-! ### Decoding: the words of 95_test_vectors 2.4, from 30_encoding R62, R64, R65, R66 -/

theorem test_decode_init : decode (.host 0b000#3) = .ok .init := by rfl

theorem test_decode_update : decode (.host 0b001#3) = .ok .update := by rfl

theorem test_decode_status : decode (.host 0b010#3) = .ok .status := by rfl

theorem test_decode_abort : decode (.host 0b011#3) = .ok .abort := by rfl

theorem test_decode_reservedHost : decode (.host 0b101#3) = .ok (.reservedHost 0b01#2) := by rfl

theorem test_decode_half : decode (.prog 0b00#2) = .ok .half := by rfl

theorem test_decode_full : decode (.prog 0b01#2) = .ok .full := by rfl

theorem test_decode_unrec2 : decode (.prog 0b10#2) = .ok (.unrec 0b0#1) := by rfl

theorem test_decode_unrec3 : decode (.prog 0b11#2) = .ok (.unrec 0b1#1) := by rfl

theorem test_decode_none : decode (.xctl 0b00#2) = .ok .xcNone := by rfl

theorem test_decode_startCircular : decode (.xctl 0b01#2) = .ok .startCircular := by rfl

theorem test_decode_stopAfterHalf : decode (.xctl 0b10#2) = .ok .stopAfterHalf := by rfl

theorem test_decode_stopNow : decode (.xctl 0b11#2) = .ok .stopNow := by rfl

/-- -120 as a 32-bit two's complement number. -/
theorem test_decode_rspOk : decode (.rsp 0b00#2 0xFFFFFF88#32) = .ok (.rspOk (-120)) := by rfl

theorem test_decode_rspBusy : decode (.rsp 0b01#2 0) = .ok (.rspBusy 0) := by rfl

theorem test_decode_rspNotRunning : decode (.rsp 0b10#2 0) = .ok (.rspNotRunning 0) := by rfl

theorem test_decode_rsp_never : decode (.rsp 0b11#2 0) = .error .rspCodeNeverProduced := by rfl

/-- 30_encoding R67: the slot base from the progress kind. -/
theorem test_slot_base : slotBaseOfWord 0b00#2 = slotBase .slot0 ∧ slotBaseOfWord 0b01#2 = slotBase .slot1 := by decide

/-- The table's words: 3 bits on the host command port, 2 bits on the progress port. -/
theorem test_table_words : decodeTableWord 3 0b011 = some .abort ∧ decodeTableWord 2 0b01 = some .full := by decide

/-! ### The Frame Encoder: 95_test_vectors 2.1, with Z = 18 and O = 36 -/

/-- (1, 2, 4), the row the spec gives in numbers. -/
theorem test_frame_one_bit_per_channel : frame Config.example3 { r := 1, g := 2, b := 4 } =
    [18, 18, 18, 18, 18, 18, 36, 18, 18, 18, 18, 18, 18, 18, 18, 36, 18, 18, 18, 18, 18, 36, 18, 18] := by decide

/-- S3: (170, 85, 0) is ZOZOZOZO OZOZOZOZ ZZZZZZZZ, as the queue holds it after `encode_frame(p, 24)`. -/
theorem test_encodeFrame_S3 :
    ((encodeFrame { r := 170, g := 85, b := 0 } .slot1 State.reset).q.toList.drop 24) =
      [18, 36, 18, 36, 18, 36, 18, 36, 36, 18, 36, 18, 36, 18, 36, 18, 18, 18, 18, 18, 18, 18, 18, 18] := by
  decide +kernel

/-- 2.2: `encode_reset(0)` over a frame leaves no code of it. -/
theorem test_encodeReset_overwrites :
    ((encodeReset .slot0 (encodeFrame { r := 255, g := 255, b := 255 } .slot0 State.reset)).q.toList.take 24) =
      List.replicate 24 0 := by
  decide +kernel

/-! ### States of the vectors of 95_test_vectors 2.3 -/

/-- `pix = [(255,0,0), (0,255,0), (0,0,255)]` as bytes (20_memory R41). -/
def trio : Memory := [(0, 255), (4, 255), (8, 255)]

theorem test_trio_pixels : pixelAt trio 0 = { r := 255, g := 0, b := 0 } ∧
    pixelAt trio 1 = { r := 0, g := 255, b := 0 } ∧ pixelAt trio 2 = { r := 0, g := 0, b := 255 } := by decide

/-- `Idle`, three pixels, the engine stopped. -/
def idle3 : State := { State.reset with pix := trio }

/-- `Active` with a cursor; the engine has just left slot 0. -/
def active3 (c : CursorWord) : State :=
  { idle3 with state := .active, cursor := c, xeMode := .running, rp := 24 }

/-- `Resetting` with a cursor; the engine has just left slot 0. -/
def latch3 (c : CursorWord) : State :=
  { idle3 with state := .resetting, cursor := c, xeMode := .running, rp := 24 }

/-- One pixel, (18, 52, 86). -/
def idle1 : State := { State.resetOf { Config.example3 with n := 1 } with pix := [(0, 18), (1, 52), (2, 86)] }

/-- Two pixels, (1, 2, 4) and (128, 64, 32). -/
def idle2 : State :=
  { State.resetOf { Config.example3 with n := 2 } with pix := [(0, 1), (1, 2), (2, 4), (3, 128), (4, 64), (5, 32)] }

/-- The longest string. -/
def longString (c : CursorWord) : State :=
  { State.resetOf { Config.example3 with n := 65535 } with state := .active, cursor := c }

/-- One value of a next state. -/
def seen {α : Type} (o : Out) (f : State → α) : Option α :=
  match o with
  | .next s => some (f s)
  | .fault _ => none
  | .refused _ => none

/-- What the vectors' columns show: lifecycle, cursor, command, response. -/
def columns (s : State) : Lifecycle × CursorWord × XferCmd × Option Response := (s.state, s.cursor, s.xc, s.rsp)

def okResponse : Response := { code := .ok, val := 0 }

/-! ### Single steps: 95_test_vectors 2.3 -/

theorem test_V1 : seen (exec .update idle3) columns = some (.active, 1, .startCircular, some okResponse) := by
  decide +kernel

/-- V1: slot 0 is ZZZZZZZZ OOOOOOOO ZZZZZZZZ, slot 1 is OOOOOOOO ZZZZZZZZ ZZZZZZZZ. -/
theorem test_V1_queue : seen (exec .update idle3) (fun s => s.q.toList) =
    some (List.replicate 8 18 ++ List.replicate 8 36 ++ List.replicate 8 18 ++ List.replicate 8 36 ++
      List.replicate 16 18) := by
  decide +kernel

theorem test_V2 : seen (exec .update idle1) columns = some (.resetting, 0, .startCircular, some okResponse) := by
  decide +kernel

theorem test_V4 : seen (exec .update (active3 1)) columns =
    some (.active, 1, .none, some { code := .busy, val := 0 }) := by decide +kernel

theorem test_V6 : seen (exec .half (active3 1)) columns = some (.active, 2, .none, none) := by decide +kernel

/-- V7: a wrong slot is obeyed: `FULL` refills slot 1 with pixel 2, ZZZZZZZZ ZZZZZZZZ OOOOOOOO. -/
theorem test_V7 : seen (exec .full (active3 1)) (fun s => s.q.toList.drop 24) =
    some (List.replicate 16 18 ++ List.replicate 8 36) := by decide +kernel

theorem test_V8 : seen (exec .full (active3 2)) columns = some (.resetting, 0, .none, none) := by decide +kernel

theorem test_V10 : seen (exec .half (latch3 0)) columns = some (.resetting, 1, .none, none) := by decide +kernel

theorem test_V11 : seen (exec .full (latch3 1)) columns = some (.idle, 1, .stopAfterHalf, none) := by decide +kernel

theorem test_V12 : seen (exec .half idle3) columns = some (.idle, 0, .stopNow, none) := by decide +kernel

theorem test_V14 : seen (exec (.unrec 0) (active3 2)) columns = some (.idle, 2, .stopNow, none) := by decide +kernel

theorem test_V16 : seen (exec (.unrec 0) idle3) columns = some (.idle, 0, .stopNow, none) := by decide +kernel

theorem test_V17 : seen (exec .abort (active3 2)) columns = some (.idle, 2, .stopNow, some okResponse) := by
  decide +kernel

theorem test_V19 : seen (exec .abort idle3) columns = some (.idle, 0, .none, some { code := .notRunning, val := 0 }) := by
  decide +kernel

theorem test_V21 : seen (exec .status (active3 1)) columns =
    some (.active, 1, .none, some { code := .ok, val := -120 }) := by decide +kernel

/-- V25: the largest magnitude. -/
theorem test_V25 : seen (exec .status (longString 1)) (fun s => s.rsp) =
    some (some { code := .ok, val := -1966080 }) := by decide +kernel

/-- V26: `cursor + 1 = 65535` is not below `N`; nothing wraps. -/
theorem test_V26 : seen (exec .half (longString 65534)) columns = some (.resetting, 0, .none, none) := by
  decide +kernel

/-- V28: `INIT` in mid-cycle: the store is zeroed, the engine is left running. -/
theorem test_V28 : seen (exec .init (active3 2)) (fun s => (columns s, decide (s.pix = []), s.xeMode)) =
    some ((.idle, 2, .none, some okResponse), true, .running) := by decide +kernel

/-- V27, one pixel's bytes: a store of (9, 9, 9), (8, 8, 8), (7, 7, 7) reads zero after `INIT`. -/
theorem test_V27 : seen (exec .init { idle3 with
    pix := [(0, 9), (1, 9), (2, 9), (3, 8), (4, 8), (5, 8), (6, 7), (7, 7), (8, 7)] })
      (fun s => (pixelAt s.pix 0, pixelAt s.pix 1, pixelAt s.pix 2)) =
    some ({ r := 0, g := 0, b := 0 }, { r := 0, g := 0, b := 0 }, { r := 0, g := 0, b := 0 }) := by decide +kernel

/-- V29. -/
theorem test_V29 : seen (envAct .reset (active3 2)) (fun s => (s.state, s.pix, s.xc, s.rsp)) =
    some (.idle, trio, .none, none) := by decide +kernel

/-- V30, as the first instruction after reset. -/
theorem test_V30 : step (State.reset.withFetchWord 3 0b100) = .refused .reservedHostCommand := by rfl

/-- `INIT` as the first instruction after reset. -/
theorem test_first_init : step (State.reset.withFetchWord 3 0b000) = exec .init State.reset := by rfl

/-- An unrecognised progress signal as the first instruction after reset. -/
theorem test_first_unrec : step (State.reset.withFetchWord 2 0b11) = exec (.unrec 1) State.reset := by rfl

/-! ### The reference engine: 95_test_vectors 2.5 -/

/-- The engine's columns. -/
def engine (s : State) : XeMode × Fin 48 × List ProgressKind := (s.xeMode, s.rp, s.pend.map Pending.kind)

/-- An engine at a pointer; element `i` of the queue holds `i + 1`. -/
def engineAt (m : XeMode) (rp : Fin 48) : State :=
  { idle3 with xeMode := m, rp := rp, wave := [7], q := Vector.ofFn fun i => BitVec.ofNat 16 (i.val + 1) }

theorem test_E1 : seen (exec .startCircular (engineAt .stopped 9)) (fun s => (engine s, s.wave)) =
    some ((.running, 0, []), []) := by decide +kernel

/-- R152: a restart before any period has run is a ShortLatch after 39 periods of low, and not after 40. -/
theorem test_R152_restart :
    seen (exec .startCircular { engineAt .running 0 with lowRun := 39 }) (·.hazards) = some [.shortLatch] ∧
    seen (exec .startCircular { engineAt .running 0 with lowRun := 40 }) (·.hazards) = some [] := by decide +kernel

theorem test_E2 : seen (envAct .tick (engineAt .running 22)) (fun s => (engine s, s.wave)) =
    some ((.running, 23, []), [7, 23]) := by decide +kernel

theorem test_E3 : seen (envAct .tick (engineAt .running 23)) (fun s => (engine s, s.wave)) =
    some ((.running, 24, [.half]), [7, 24]) := by decide +kernel

theorem test_E4 : seen (envAct .tick (engineAt .running 47)) (fun s => (engine s, s.wave)) =
    some ((.running, 0, [.full]), [7, 48]) := by decide +kernel

theorem test_E5 : seen (exec .stopAfterHalf (engineAt .running 24)) engine = some (.stopPending, 24, []) := by
  decide +kernel

theorem test_E6 : seen (envAct .tick (engineAt .stopPending 47)) (fun s => (engine s, s.wave)) =
    some ((.stopped, 0, []), [7, 48]) := by decide +kernel

theorem test_E7 : seen (exec .stopNow (engineAt .running 30)) engine = some (.stopped, 30, []) := by decide +kernel

theorem test_E9 : seen (exec .stopNow (engineAt .stopped 5)) engine = some (.stopped, 5, []) := by decide +kernel

/-- `STOP_AFTER_HALF` has no effect on a stopped engine (60_exceptions R150). -/
theorem test_stopAfterHalf_stopped : seen (exec .stopAfterHalf (engineAt .stopped 5)) engine =
    some (.stopped, 5, []) := by decide +kernel

theorem test_none : exec .xcNone (engineAt .running 30) = .next (engineAt .running 30) := by rfl

/-- P3 event 11: the host waits 50 µs, 40 periods, with the line low, after `STOP_NOW`. -/
theorem test_hold_low : seen (envAct (.holdLow 40) { engineAt .stopped 5 with line := .high })
    (fun s => (s.line, s.lowRun * s.cfg.carrierNs)) = some (.low, 50000) := by decide +kernel

/-- The host receives `(Ok, -120)`, `Busy` and `NotRunning` (30_encoding R64). -/
theorem test_rspOk : seen (exec (.rspOk (-120)) idle3) (fun s => s.rspLog) =
    some [{ code := .ok, val := -120 }] := by decide +kernel

theorem test_rspBusy : seen (exec (.rspBusy 0) idle3) (fun s => s.rspLog) =
    some [{ code := .busy, val := 0 }] := by decide +kernel

theorem test_rspNotRunning : seen (exec (.rspNotRunning 0) idle3) (fun s => s.rspLog) =
    some [{ code := .notRunning, val := 0 }] := by decide +kernel

/-- 60_exceptions R154: a 0 bit is 18 high ticks of 60, then low; a code above the period saturates. -/
theorem test_period : periodLevels Config.example3 18 = List.replicate 18 .high ++ List.replicate 42 .low ∧
    periodLevels Config.example3 100 = List.replicate 60 .high := by decide +kernel

/-! ### The admitted instances (00_scope R8 to R10) -/

theorem test_validConfig_example : validConfig Config.example3 = true := by decide

theorem test_validConfig_refuses_no_pixels : validConfig { Config.example3 with n := 0 } = false := by decide

theorem test_validConfig_refuses_short_latch : validConfig { Config.example3 with resetCycles := 1 } = false := by decide

theorem test_validConfig_refuses_zero_code_band : validConfig { Config.example3 with zeroCode := 25 } = false := by
  decide

theorem test_validConfig_refuses_offsets : validConfig { Config.example3 with offR := 0 } = false := by decide

/-- 70_reset_and_hazards R188 with 00_scope R8: two reset cycles at the default carrier. -/
theorem test_resetCyclesFor : resetCyclesFor 1250 = 2 := by decide

theorem test_reset_store_canonical : Memory.wf State.reset.pix = true := by rfl

/-! ### Witnesses: states that meet the hypotheses of the statements -/

theorem good_idle3 : GoodState idle3 := ⟨by decide, trivial, ⟨by decide, by decide⟩, fun _ => by decide⟩

theorem good_active3_first : GoodState (active3 1) :=
  ⟨by decide, (by decide : 2 ≤ 3 ∧ 1 ≤ 1 ∧ 1 ≤ 3 - 1), ⟨by decide, by decide⟩, fun _ => by decide⟩

theorem good_active3_last : GoodState (active3 2) :=
  ⟨by decide, (by decide : 2 ≤ 3 ∧ 1 ≤ 2 ∧ 2 ≤ 3 - 1), ⟨by decide, by decide⟩, fun _ => by decide⟩

theorem good_latch3_first : GoodState (latch3 0) :=
  ⟨by decide, (by decide : 0 ≤ 2 - 1), ⟨by decide, by decide⟩, fun _ => by decide⟩

theorem good_latch3_last : GoodState (latch3 1) :=
  ⟨by decide, (by decide : 1 ≤ 2 - 1), ⟨by decide, by decide⟩, fun _ => by decide⟩

theorem witness_DecodeEncodeAgree : (Instr.rspOk (-30)).wellFormed = true ∧ (Instr.reservedHost 3).wellFormed = true := by
  decide

theorem witness_EncodeDecodeAgree : decode (.rsp 0b00#2 (-30)) = .ok (.rspOk (-30)) := by rfl

/-- A command, a signal, a tick and nothing to be presented. -/
def hostNext : State := { idle3 with trace := [.host 0b001#3] }

def tickNext : State := { idle3 with trace := [.env .tick] }

theorem witness_StepRunsDecodedInstruction : validConfig hostNext.cfg = true ∧
    fetch hostNext = .word (.host 0b001#3) idle3 ∧ decode (.host 0b001#3) = .ok .update := ⟨by decide, rfl, rfl⟩

theorem witness_StepOtherwise : validConfig tickNext.cfg = true ∧ fetch tickNext = .action .tick idle3 ∧
    fetch idle3 = .nothing ∧ validConfig { Config.example3 with n := 0 } = false :=
  ⟨by decide, rfl, rfl, by decide⟩

/-- A command and a signal presented together, and then the command alone. -/
def bothNext : State := { active3 1 with trace := [.together 0b011#3 0b00#2] }

/-- The same with latent delivery, the signal at the head of `pend`. -/
def bothLatent : State :=
  { active3 1 with
    cfg := { Config.example3 with delivery := .latent }
    pend := [{ kind := .half, raisedAt := 0 }, { kind := .full, raisedAt := 24 }]
    periods := 30
    trace := [.together 0b011#3 0b00#2] }

def commandWaits : State := { active3 1 with hostCmd := some 0b011#3, trace := [.env .tick] }

theorem witness_SignalBeforeCommand :
    (bothNext.xc = .none ∧ bothNext.rsp = none ∧ bothNext.pend = [] ∧ bothNext.hostCmd = none ∧
      bothNext.trace = .together 0b011#3 0b00#2 :: []) ∧
    (bothLatent.xc = .none ∧ bothLatent.rsp = none ∧ (bothLatent.cfg.delivery = .prompt → bothLatent.pend = []) ∧
      bothLatent.pend = [{ kind := .half, raisedAt := 0 }, { kind := .full, raisedAt := 24 }] ∧ bothLatent.hostCmd = none ∧
      bothLatent.trace = .together 0b011#3 0b00#2 :: []) ∧
    (commandWaits.xc = .none ∧ commandWaits.rsp = none ∧ (commandWaits.cfg.delivery = .prompt → commandWaits.pend = []) ∧
      commandWaits.hostCmd = some 0b011#3) :=
  ⟨⟨rfl, rfl, rfl, rfl, rfl⟩, ⟨rfl, rfl, nofun, rfl, rfl, rfl⟩, rfl, rfl, fun _ => rfl, rfl⟩

/-- A lone progress word, latent: it is the head of `pend`, or it is not. -/
def lateSignal (pk : BitVec 2) : State := { bothLatent with trace := [.progress pk] }

theorem witness_DeliveryInOrder : (lateSignal 0b00#2).xc = .none ∧ (lateSignal 0b00#2).rsp = none ∧
    ((lateSignal 0b00#2).cfg.delivery = .prompt → (lateSignal 0b00#2).pend = []) ∧
    (lateSignal 0b00#2).hostCmd = none ∧ (lateSignal 0b00#2).trace = .progress 0b00#2 :: [] ∧
    (lateSignal 0b00#2).pend = { kind := .half, raisedAt := 0 } :: [{ kind := .full, raisedAt := 24 }] ∧
    progressWord .half = 0b00#2 :=
  ⟨rfl, rfl, nofun, rfl, rfl, rfl, rfl⟩

theorem witness_DeliveryInOrder_extra : ∀ k ks, (lateSignal 0b01#2).pend = k :: ks → progressWord k.kind ≠ 0b01#2 := by
  intro k ks h
  injection h with h1 h2
  subst h1
  decide

/-- The engine has just raised `HALF`. -/
def raisedHalf : State := { active3 1 with pend := [{ kind := .half, raisedAt := 0 }] }

theorem witness_TraceGoesInOrder :
    (hostNext.xc = .none ∧ hostNext.rsp = none ∧ (hostNext.cfg.delivery = .prompt → hostNext.pend = []) ∧
      hostNext.hostCmd = none ∧ hostNext.trace = .host 0b001#3 :: []) ∧
    (tickNext.xc = .none ∧ tickNext.rsp = none ∧ (tickNext.cfg.delivery = .prompt → tickNext.pend = []) ∧
      tickNext.hostCmd = none ∧ tickNext.trace = .env .tick :: []) ∧
    (idle3.xc = .none ∧ idle3.rsp = none ∧ (idle3.cfg.delivery = .prompt → idle3.pend = []) ∧ idle3.hostCmd = none ∧
      idle3.trace = []) :=
  ⟨⟨rfl, rfl, fun _ => rfl, rfl, rfl⟩, ⟨rfl, rfl, fun _ => rfl, rfl, rfl⟩, rfl, rfl, fun _ => rfl, rfl, rfl⟩

theorem witness_PortsGoFirst :
    ({ idle3 with xc := .stopNow } : State).xc ≠ .none ∧
    (({ idle3 with rsp := some okResponse } : State).xc = .none ∧
      ({ idle3 with rsp := some okResponse } : State).rsp = some okResponse) ∧
    (raisedHalf.xc = .none ∧ raisedHalf.rsp = none ∧
      raisedHalf.cfg.delivery = .prompt ∧
      raisedHalf.pend = { kind := .half, raisedAt := 0 } :: []) :=
  ⟨by decide, ⟨rfl, rfl⟩, rfl, rfl, rfl, rfl⟩

theorem witness_InitZeroesStore : storeGood idle3 ∧ storeGood (active3 2) :=
  ⟨good_idle3.store, good_active3_last.store⟩

/-- One pixel, two pixels, three pixels. -/
theorem witness_UpdateStartsCycle : (validConfig idle1.cfg = true ∧ idle1.state = .idle ∧ idle1.cfg.n = 1) ∧
    (validConfig idle2.cfg = true ∧ idle2.state = .idle ∧ 2 ≤ idle2.cfg.n) ∧
    (validConfig idle3.cfg = true ∧ idle3.state = .idle ∧ 2 ≤ idle3.cfg.n ∧ idle3.xeMode = .stopped) := by decide

theorem witness_UpdateBusy : (active3 1).state ≠ .idle ∧ (latch3 1).state ≠ .idle := by decide

theorem witness_StatusAnswers : idle3.state = .idle ∧ (active3 2).state = .active ∧ (latch3 1).state = .resetting := by
  decide

theorem witness_StatusSign : GoodState idle3 ∧ GoodState (active3 1) ∧ GoodState (latch3 1) ∧ (latch3 1).state ≠ .idle :=
  ⟨good_idle3, good_active3_first, good_latch3_last, by decide⟩

theorem witness_SignalLowersRemaining : (GoodState (active3 2) ∧ (active3 2).state ≠ .idle) ∧
    (GoodState (latch3 0) ∧ (latch3 0).state ≠ .idle) ∧ (GoodState (latch3 1) ∧ (latch3 1).state ≠ .idle) :=
  ⟨⟨good_active3_last, by decide⟩, ⟨good_latch3_first, by decide⟩, good_latch3_last, by decide⟩

theorem witness_AbortStopsOrReports : (active3 2).state ≠ .idle ∧ (latch3 0).state ≠ .idle ∧ idle3.state = .idle := by
  decide

theorem witness_SignalFeedsNextPixel : validConfig (active3 1).cfg = true ∧ (active3 1).state = .active ∧
    (active3 1).cursor.toNat + 1 < (active3 1).cfg.n := by decide

/-- The last pixel of three, and of the longest string. -/
theorem witness_SignalBeginsLatch : ((active3 2).state = .active ∧ ¬ (active3 2).cursor.toNat + 1 < (active3 2).cfg.n) ∧
    ((longString 65534).state = .active ∧ ¬ (longString 65534).cursor.toNat + 1 < (longString 65534).cfg.n) := by decide

theorem witness_SignalContinuesLatch : validConfig (latch3 0).cfg = true ∧ (latch3 0).state = .resetting ∧
    (latch3 0).cursor.toNat < (latch3 0).cfg.resetCycles - 1 := by decide

theorem witness_SignalEndsCycle : (latch3 1).state = .resetting ∧
    ¬ (latch3 1).cursor.toNat < (latch3 1).cfg.resetCycles - 1 := by decide

theorem witness_SignalInIdleStops : idle3.state = .idle := by decide

/-- 40 periods of 1250 ns are exactly the latch minimum, 39 are too few; an engine that restarts before any data, one
that starts before any data, and one that starts after data. -/
theorem witness_StartCircularRestarts : ¬ (40 * idle3.cfg.carrierNs < 50000) ∧ 39 * idle3.cfg.carrierNs < 50000 ∧
    ((engineAt .running 0).dataSeen = false ∧ (engineAt .running 0).xeMode ≠ .stopped) ∧
    ((engineAt .stopped 0).dataSeen = false ∧ (engineAt .stopped 0).xeMode = .stopped) ∧
    ({ engineAt .stopped 0 with dataSeen := true } : State).dataSeen = true := by
  decide

/-- The first and last pointer of a half, running and stop-pending, and a torn cycle. -/
theorem witness_TickCopiesOneCode : (engineAt .running 23).xeMode ≠ .stopped ∧
    ({ engineAt .running 23 with torn := true } : State).xeMode ≠ .stopped ∧ (engineAt .running 23).torn = false ∧
    (engineAt .running 23).rp.val = 23 ∧ (engineAt .running 23).xeMode = .running ∧
    (engineAt .running 47).torn = false ∧ (engineAt .running 47).rp.val = 47 ∧
    (engineAt .stopPending 47).torn = false ∧ (engineAt .stopPending 47).xeMode = .stopPending ∧
    (engineAt .running 24).rp.val ≠ 23 ∧ (engineAt .running 24).rp.val ≠ 47 := by decide

theorem witness_TickNeedsRunningEngine : (engineAt .stopped 47).xeMode = .stopped := by decide

theorem witness_HoldLowCounts : (engineAt .stopped 0).xeMode = .stopped ∧ (engineAt .stopPending 0).xeMode ≠ .stopped := by
  decide

theorem witness_PeriodShape : 0 < idle3.cfg.periodTicks := by decide

/-- The first and the last pixel, and the index just past them. -/
theorem witness_PixelWriteThenRead : storeGood idle3 ∧ 0 < idle3.cfg.n ∧ 2 < idle3.cfg.n ∧ idle3.cfg.n ≤ 3 :=
  ⟨good_idle3.store, by decide, by decide, by decide⟩

theorem witness_FrameFollowsWireOrder : Config.example3.offG = 0 ∧ Config.example3.offR = 8 ∧ Config.example3.offB = 16 := by
  decide

theorem witness_FrameInjective : calibrated Config.example3 = true ∧
    frame Config.example3 { r := 1, g := 2, b := 4 } = frame Config.example3 { r := 1, g := 2, b := 4 } := ⟨by decide, rfl⟩

theorem witness_EncodersWriteOneSlot : offsetsPermute idle3.cfg = true ∧
    offsetsPermute { Config.example3 with offG := 16, offB := 0 } = true := by decide

/-- The same with the engine's pointer at the first and the last element of each slot. -/
def activeAt (rp : Fin 48) : State := { active3 1 with rp := rp }

/-- Both slots, the pointer at each edge, inside and outside. -/
theorem witness_TornWriteRecorded : ∀ rp ∈ [(0 : Fin 48), 23, 24, 47],
    validConfig (activeAt rp).cfg = true ∧ refills (activeAt rp) := by
  intro rp _
  exact ⟨test_validConfig_example, .inl rfl⟩

/-- `Resetting` with a reset cycle left. -/
theorem witness_TornWriteRecorded_resetting : validConfig (latch3 0).cfg = true ∧ refills (latch3 0) :=
  ⟨by decide, .inr ⟨rfl, by decide⟩⟩

theorem witness_TornWriteRecorded_edges :
    (activeAt 0).rp.val ≤ slotBase .slot0 + 23 ∧ (activeAt 23).rp.val ≤ slotBase .slot0 + 23 ∧
    ¬ (activeAt 24).rp.val ≤ slotBase .slot0 + 23 ∧ slotBase .slot1 ≤ (activeAt 24).rp.val ∧
    (activeAt 47).rp.val ≤ slotBase .slot1 + 23 ∧ ¬ slotBase .slot1 ≤ (activeAt 23).rp.val := by decide

theorem witness_UpdateAtRestIsClean : validConfig idle3.cfg = true ∧ idle3.state = .idle ∧ idle3.xeMode = .stopped := by
  decide

/-- Outside the slot a refill is torn from a delay of 24 periods on, and not at 23 or with no delay. -/
theorem witness_TornWriteRecorded_late : tornHere .slot0 { activeAt 24 with delay := some 24 } ∧
    ¬ tornHere .slot0 { activeAt 24 with delay := some 23 } ∧ ¬ tornHere .slot0 (activeAt 24) := by
  simp [tornHere, activeAt, active3, slotBase, idle3, State.reset, State.resetOf]

/-- `Resetting`, the engine has just left slot 1 and raised `FULL`, after 48 carrier periods. -/
def raisedFull : State :=
  { latch3 0 with rp := 0, periods := 48, pend := [{ kind := .full, raisedAt := 48 }] }

/-- Both slots, `Active` and `Resetting`. -/
theorem witness_RefillDeadline :
    (validConfig raisedHalf.cfg = true ∧ raisedHalf.state = .active ∧ raisedHalf.xeMode = .running ∧
      raisedHalf.torn = false ∧ raisedHalf.rp.val = (slotBase .slot0 + 24) % 48 ∧
      raisedHalf.pend = { kind := kindOf .slot0, raisedAt := raisedHalf.periods } :: []) ∧
    (validConfig raisedFull.cfg = true ∧ raisedFull.state = .resetting ∧
      raisedFull.cursor.toNat < raisedFull.cfg.resetCycles - 1 ∧ raisedFull.xeMode = .running ∧
      raisedFull.torn = false ∧ raisedFull.rp.val = (slotBase .slot1 + 24) % 48 ∧
      raisedFull.pend = { kind := kindOf .slot1, raisedAt := raisedFull.periods } :: []) := by decide

/-- R181: delivered 50 periods late, with the pointer back in the other slot, the refill is still a torn write. -/
theorem test_R181_a_lap_late :
    seen (exec .half { activeAt 26 with delay := some 50 }) (fun s => (s.torn, s.hazards)) =
      some (true, [.tornWrite]) := by decide +kernel

/-- R181 and P5 4a: 23 periods late meets the deadline. -/
theorem test_R181_in_time :
    seen (exec .half { activeAt 47 with delay := some 23 }) (fun s => (s.torn, s.hazards)) = some (false, []) := by
  decide +kernel

/-- P6: one pixel, the final drain. -/
def drain1 : State := { idle1 with xeMode := .stopPending, rp := 5, lowRun := 29, dataSeen := true }

theorem witness_UpdateInFinalDrain : validConfig drain1.cfg = true ∧ drain1.state = .idle ∧
    drain1.xeMode = .stopPending := by decide

theorem witness_LifecycleTransitions : ∃ t, step hostNext = .next t ∧ hostNext.state = .idle ∧ t.state ≠ .idle :=
  ⟨_, rfl, rfl, by decide⟩

theorem witness_LifecycleTransitions_resetting :
    ∃ t, step { latch3 0 with trace := [.progress 0b00#2] } = .next t ∧ (latch3 0).state = .resetting := ⟨_, rfl, rfl⟩

theorem witness_OnlyReservedStops : validConfig idle3.cfg = true := by decide

theorem witness_PortsSeparateAgents : (∃ t, exec .update idle3 = .next t ∧ isBlockEvent .update = true) ∧
    (∃ t, exec .startCircular idle3 = .next t ∧ isBlockEvent .startCircular = false) := ⟨⟨_, rfl, rfl⟩, _, rfl, rfl⟩

theorem witness_OnlyInitWritesStore : ∃ t, exec .update idle3 = .next t ∧ Instr.update ≠ .init := ⟨_, rfl, by decide⟩

theorem witness_QueueHoldsOnlyCodes : offsetsPermute idle3.cfg = true ∧ queueCodes idle3 ∧
    ∃ t, exec .update idle3 = .next t := by
  refine ⟨by decide, fun i => .inr (.inr ?_), _, rfl⟩
  show (Vector.replicate 48 (0 : DutyCode))[i] = 0
  simp

theorem witness_ParametersNeverChange : ∃ t, step hostNext = .next t := ⟨_, rfl⟩

/-- Three pixels and two reset cycles: four signals. -/
theorem witness_CycleLength : validConfig idle3.cfg = true ∧ idle3.state = .idle ∧
    [Slot.slot0, .slot1, .slot0, .slot1].length = idle3.cfg.n + idle3.cfg.resetCycles - 1 := by decide

theorem witness_StepKeepsInvariant : GoodState idle3 ∧ step idle3 = .next idle3 := ⟨good_idle3, rfl⟩

theorem witness_ResetMeetsInvariant : validConfig { Config.example3 with n := 65535 } = true := by decide

/-- One pixel: an update and 72 carrier periods. -/
def cycle1 : State := { idle1 with trace := .host 0b001#3 :: List.replicate 72 (.env .tick) }

theorem witness_TransmittedStream : validConfig cycle1.cfg = true ∧ cycle1.cfg.delivery = .prompt ∧
    cycle1.state = .idle ∧ cycle1.xeMode = .stopped ∧ cycle1.pend = [] ∧ cycle1.xc = .none ∧ cycle1.rsp = none ∧
    cycle1.hostCmd = none ∧
    cycle1.trace = .host 0b001#3 :: List.replicate (24 * (cycle1.cfg.n + cycle1.cfg.resetCycles)) (.env .tick) :=
  ⟨by decide, rfl, rfl, rfl, rfl, rfl, rfl, rfl, rfl⟩

end Sys2Proof.Tests
end

section
/-! Proofs of the encoding family: what the decoder answers on the host command port. -/

namespace Sys2Proof.Machine

/-- 30_encoding R62, R63: the decoder's branches, one case each. -/
theorem decodeHost_cases (cmd : BitVec 3) :
    decodeHost cmd = .init ∨ decodeHost cmd = .update ∨ decodeHost cmd = .status ∨ decodeHost cmd = .abort ∨
      decodeHost cmd = .reservedHost (cmd.extractLsb' 0 2) := by
  rw [decodeHost]
  split_ifs <;> simp only [true_or, or_true]

/-- 30_encoding R62: a word with `cmd[2] = 1` is none of the four commands, and its low bits are kept. -/
@[simp] theorem decodeHost_one_append (low : BitVec 2) : decodeHost (0b1#1 ++ low) = .reservedHost low := by
  revert low
  decide

/-- 30_encoding R71: the reserved command has no meaning in any state. -/
theorem exec_reservedHost (low : BitVec 2) (s : State) :
    exec (.reservedHost low) s = .refused .reservedHostCommand := rfl

/-- Settles O4: every branch of the host decoder is one of the four commands or the reserved one. -/
theorem hostDecodingTotal : Obligations.HostDecodingTotal := by
  intro cmd
  refine ⟨decodeHost cmd, rfl, ?_⟩
  obtain h | h | h | h | h := decodeHost_cases cmd
  · exact .inl h
  · exact .inr (.inl h)
  · exact .inr (.inr (.inl h))
  · exact .inr (.inr (.inr (.inl h)))
  · exact .inr (.inr (.inr (.inr ⟨_, h⟩)))

/-- Settles O16: a word `1xx` decodes to the reserved command, whose meaning is the refusal. -/
theorem reservedCommandRefused : Obligations.ReservedCommandRefused := fun low s =>
  ⟨congrArg Except.ok (decodeHost_one_append low), exec_reservedHost low s⟩

end Sys2Proof.Machine
end

section
/-! Proofs of the state machine family (41_state_machine R90 to R98): what `UPDATE`, `ABORT` and the two recognised
progress signals answer, state by state. -/

namespace Sys2Proof.Machine

/-! ### The meanings of the events -/

/-- The signal that reports a slot drained is `notify` of that slot (30_encoding R67). -/
theorem exec_signalOf (sl : Slot) (s : State) : exec (signalOf sl) s = notify sl s := by
  cases sl <;> rfl

/-- 42_control_surface R111: `UPDATE` in `Idle` is `start`, answered with `Ok`. -/
theorem exec_update_idle (s : State) (hs : s.state = .idle) :
    exec .update s = andThen (start s) (respond .ok 0) := by
  rw [exec, execUpdate, hs]

/-- 41_state_machine R91: `UPDATE` in any other state ends with `Busy`. -/
theorem exec_update_busy (s : State) (hs : s.state ≠ .idle) : exec .update s = .next (raiseResult .busy s) := by
  rw [exec, execUpdate]
  split
  · contradiction
  · rfl
  · rfl

/-- 41_state_machine R98: `ABORT` in `Idle` ends with `NotRunning`. -/
theorem exec_abort_idle (s : State) (hs : s.state = .idle) :
    exec .abort s = .next (raiseResult .notRunning s) := by
  rw [exec, execAbort, hs]

/-- 41_state_machine R98: `ABORT` in any other state stops the engine and goes to `Idle`. -/
theorem exec_abort_running (s : State) (hs : s.state ≠ .idle) :
    exec .abort s = .next (respond .ok 0 (abortRunning s)) := by
  rw [exec, execAbort]
  split
  · contradiction
  · rfl
  · rfl

/-- Writing the value `state` already holds changes nothing. -/
theorem setState_of_eq {s : State} {l : Lifecycle} (h : s.state = l) : setState l s = s := by
  rw [setState, ← h]

/-! ### What a refill leaves in the queue -/

/-- 40_encoders R80: a frame fills its slot and leaves the other. -/
theorem encodeFrame_slot (p : Pixel) (sl : Slot) (s : State) (ho : offsetsPermute s.cfg = true) :
    slotHolds (encodeFrame p sl s).q sl (frameCode s.cfg p) ∧ sameOutside sl s.q (encodeFrame p sl s).q := by
  rw [encodeFrame_q]
  exact frameInto_slot s.cfg ho p sl s.q

/-- 40_encoders R83: a reset block fills its slot and leaves the other. -/
theorem encodeReset_slot (sl : Slot) (s : State) :
    slotHolds (encodeReset sl s).q sl (fun _ => offCode) ∧ sameOutside sl s.q (encodeReset sl s).q := by
  rw [encodeReset_q]
  exact resetRun_slot sl s.q

/-! ### The obligations -/

/-- Settles O10: with one pixel and with more, slot 0 is filled first and the refill of slot 1 leaves it alone. -/
theorem updateStartsCycle : Obligations.UpdateStartsCycle := by
  intro s hv hs
  have hslot0 := (encodeFrame_slot (pixelAt s.pix 0) .slot0 (clearTorn s) (offsetsPermute_of_valid _ hv)).1
  rw [exec_update_idle s hs]
  obtain ⟨hn, -⟩ := bounds_of_valid _ hv
  obtain hone | hmany : s.cfg.n = 1 ∨ 2 ≤ s.cfg.n := by omega
  · have hslot1 := encodeReset_slot .slot1 (encodeFrame (pixelAt s.pix 0) .slot0 (clearTorn s))
    rw [start_one s hone]
    exact ⟨_, rfl, slotHolds_of_other hslot1.2 hslot0, fun _ => ⟨rfl, rfl, hslot1.1⟩, fun h => by omega, rfl, rfl,
      by simp, by simp [sameEnvironment]⟩
  · have hslot1 := encodeFrame_slot (pixelAt s.pix 1) .slot1 (encodeFrame (pixelAt s.pix 0) .slot0 (clearTorn s))
      (by simpa using offsetsPermute_of_valid _ hv)
    rw [start_many s hmany]
    exact ⟨_, rfl, slotHolds_of_other hslot1.2 hslot0, fun h => by omega, fun _ => ⟨rfl, rfl, by simpa using hslot1.1⟩,
      rfl, rfl, by simp, by simp [sameEnvironment]⟩

/-- Settles O17: the next pixel's index does not wrap, so it is the frame of `cursor + 1` that fills the slot. -/
theorem signalFeedsNextPixel : Obligations.SignalFeedsNextPixel := by
  intro s sl hv hs hc
  obtain ⟨-, hn, -⟩ := bounds_of_valid _ hv
  have hslot := encodeFrame_slot (pixelAt s.pix (s.cursor.toNat + 1)) sl
    (checkDeadline sl (setCursor (s.cursor + 1) (emit .none s))) (by simpa using offsetsPermute_of_valid _ hv)
  refine ⟨_, (exec_signalOf sl s).trans (notify_pixel sl s hs hn hc), ?_⟩
  exact ⟨by simp [hs], by simpa using toNat_cursor_succ s.cursor (by omega), by simpa using hslot.1,
    by simpa using hslot.2, by simp, by simp, by simp, by simp [sameEnvironment]⟩

/-- Settles O18: the string is streamed, so the slot is filled by the Reset Encoder. -/
theorem signalBeginsLatch : Obligations.SignalBeginsLatch := by
  intro s sl hs hc
  have hslot := encodeReset_slot sl (checkDeadline sl (setCursor 0 (emit .none s)))
  refine ⟨_, (exec_signalOf sl s).trans (notify_end sl s hs hc), ?_⟩
  exact ⟨rfl, by simp, hslot.1, by simpa using hslot.2, by simp, by simp, by simp, by simp [sameEnvironment]⟩

/-- Settles O19: the reset cycle's index does not wrap, and the slot is filled by the Reset Encoder. -/
theorem signalContinuesLatch : Obligations.SignalContinuesLatch := by
  intro s sl hv hs hc
  obtain ⟨-, -, -, hr, -⟩ := bounds_of_valid _ hv
  have hslot := encodeReset_slot sl (checkDeadline sl (setCursor (s.cursor + 1) (emit .none s)))
  refine ⟨_, (exec_signalOf sl s).trans (notify_reset sl s hs hc), ?_⟩
  exact ⟨by simp [hs], by simpa using toNat_cursor_succ s.cursor (by omega), hslot.1, by simpa using hslot.2,
    by simp, by simp, by simp, by simp [sameEnvironment]⟩

/-- Settles O11: outside `Idle`, `UPDATE` raises `Busy`, which writes the two ports only. -/
theorem updateBusy : Obligations.UpdateBusy := exec_update_busy

/-- Settles O15: outside `Idle` the abort, in `Idle` the error `NotRunning`. -/
theorem abortStopsOrReports : Obligations.AbortStopsOrReports := fun s =>
  ⟨exec_abort_running s, exec_abort_idle s⟩

/-- Settles O20: the last reset cycle is queued, so `notify` only ends the cycle. -/
theorem signalEndsCycle : Obligations.SignalEndsCycle := fun s sl hs hc =>
  (exec_signalOf sl s).trans (notify_complete sl s hs hc)

/-- Settles O21: in `Idle` the signal is an anomaly, whose `state <- Idle` changes nothing. -/
theorem signalInIdleStops : Obligations.SignalInIdleStops := fun s sl hs =>
  calc exec (signalOf sl) s = notify sl s := exec_signalOf sl s
    _ = .next (setState .idle (emit .stopNow s)) := notify_idle sl s hs
    _ = .next (emit .stopNow s) := congrArg _ (setState_of_eq (s := emit .stopNow s) hs)

end Sys2Proof.Machine
end

section
/-! Proofs of the control surface family (42_control_surface R110, R118): what `INIT` and an unrecognised progress
kind answer, in every state. -/

namespace Sys2Proof.Machine

/-- 42_control_surface R110: `INIT` is the same in every state, a store of zero pixels, `Idle` and `Ok`. -/
theorem exec_init (s : State) :
    exec .init s =
      .next (respond .ok 0 (setState .idle (emit .none { s with pix := zeroPixels s.pix s.cfg.n }))) := rfl

/-- 42_control_surface R118: an unrecognised progress kind is the anomaly path, without regard to its low bit. -/
theorem exec_unrec (k : BitVec 1) (s : State) : exec (.unrec k) s = .next (anomaly s) := rfl

/-- 41_state_machine R99: the anomaly path writes `state` and the transfer-control port only. -/
theorem anomaly_eq (s : State) : anomaly s = { s with state := .idle, xc := .stopNow } := rfl

/-- Each of the first `n` pixels reads zero after they have been zeroed (42_control_surface R110). -/
theorem pixelAt_zeroPixels (m : Memory) (h : Memory.wf m = true) {n i : Nat} (hi : i < n) :
    pixelAt (zeroPixels m n) i = { r := 0, g := 0, b := 0 } := by
  have hbyte : ∀ y, y < 3 * n → byteAt (zeroPixels m n) y = 0 := fun y hy => by
    rw [byteAt_zeroPixels m h, if_pos hy]
  rw [pixelAt, hbyte _ (by omega), hbyte _ (by omega), hbyte _ (by omega)]

/-- A byte past the first `n` pixels reads as before they were zeroed (42_control_surface R110). -/
theorem byteAt_zeroPixels_outside (m : Memory) (h : Memory.wf m = true) {n a : Nat} (ha : 3 * n ≤ a) :
    byteAt (zeroPixels m n) a = byteAt m a := by
  rw [byteAt_zeroPixels m h, if_neg (by omega)]

/-- Settles O9: the store's canonical form makes every zeroed pixel read zero and every byte outside read as before;
the registers, the environment and the hazard records are no field that `INIT` writes. -/
theorem initZeroesStore : Obligations.InitZeroesStore := by
  intro s ⟨hwf, _⟩
  refine ⟨_, exec_init s, rfl, rfl, rfl, fun i hi => ?_, fun a ha => ?_, rfl, rfl, by simp [sameEnvironment],
    rfl, rfl⟩
  · rw [pixRead_of_lt]
    · exact congrArg some (pixelAt_zeroPixels s.pix hwf hi)
    · exact hi
  · exact byteAt_zeroPixels_outside s.pix hwf ha

/-- Settles O22: the event is the anomaly path, which writes those two fields in every state. -/
theorem unrecognisedForcesIdle : Obligations.UnrecognisedForcesIdle := fun s k =>
  (exec_unrec k s).trans (congrArg _ (anomaly_eq s))

end Sys2Proof.Machine
end

section
/-! Proofs about the four ports' words (30_encoding R62 to R66, R75): the decoder and the encoder are inverse. -/

namespace Sys2Proof.Machine

/-- 30_encoding R65: a word with `pk[1] = 1` is neither signal, and its low bit is kept. -/
@[simp] theorem decodeProg_one_append (k : BitVec 1) : decodeProg (0b1#1 ++ k) = .unrec k := by
  revert k
  decide

/-- 30_encoding R64: a response word is an event exactly where its code and its value are produced. -/
theorem decodeRsp_eq_ok (code : BitVec 2) (val : RspValue) (i : Instr) :
    decodeRsp code val = .ok i ↔ decodeRspCode code val = .ok i ∧ i.wellFormed = true := by
  rw [decodeRsp]
  split
  · rename_i j hj
    by_cases hw : j.wellFormed = true
    · simp only [hj, hw, if_true, Except.ok.injEq]
      exact ⟨fun h => ⟨h, h ▸ hw⟩, And.left⟩
    · simp only [hj, hw, if_false, reduceCtorEq, Except.ok.injEq, false_iff, not_and]
      exact fun h => h ▸ hw
  · rename_i hj
    simp only [hj, reduceCtorEq, false_and]

/-- 30_encoding R62: a host command word is the word of its event, and every host event is well-formed. -/
theorem encode_decodeHost (cmd : BitVec 3) :
    (decodeHost cmd).wellFormed = true ∧ encode (decodeHost cmd) = .host cmd := by
  revert cmd
  decide

/-- 30_encoding R65: the same on the progress port. -/
theorem encode_decodeProg (pk : BitVec 2) :
    (decodeProg pk).wellFormed = true ∧ encode (decodeProg pk) = .prog pk := by
  revert pk
  decide

/-- 30_encoding R66: the same on the transfer-control port. -/
theorem encode_decodeXctl (xc : BitVec 2) :
    (decodeXctl xc).wellFormed = true ∧ encode (decodeXctl xc) = .xctl xc := by
  revert xc
  decide

/-- 30_encoding R64: a response word whose code is produced is the word of the event its code names. -/
theorem encode_of_decodeRspCode {code : BitVec 2} {val : RspValue} {i : Instr}
    (h : decodeRspCode code val = .ok i) : encode i = .rsp code val := by
  unfold decodeRspCode at h
  split_ifs at h with h0 h1 h2 <;> cases h
  · rw [h0, encode]
  · rw [h1, encode]
  · rw [h2, encode]

/-- Settles O1: an operand in the word comes back out of it, and a response passes the check of its value. -/
theorem decodeEncodeAgree : Obligations.DecodeEncodeAgree := by
  intro i hw
  cases i with
  | reservedHost low => exact congrArg Except.ok (decodeHost_one_append low)
  | unrec k => exact congrArg Except.ok (decodeProg_one_append k)
  | rspOk val => exact (decodeRsp_eq_ok 0b00#2 val _).2 ⟨rfl, hw⟩
  | rspBusy val => exact (decodeRsp_eq_ok 0b01#2 val _).2 ⟨rfl, hw⟩
  | rspNotRunning val => exact (decodeRsp_eq_ok 0b10#2 val _).2 ⟨rfl, hw⟩
  | _ => rfl

/-- Settles O2: port by port, the event a word decodes to is well-formed and encodes back to the word. -/
theorem encodeDecodeAgree : Obligations.EncodeDecodeAgree := by
  intro w i h
  cases w with
  | host cmd =>
    cases h
    exact encode_decodeHost cmd
  | prog pk =>
    cases h
    exact encode_decodeProg pk
  | xctl xc =>
    cases h
    exact encode_decodeXctl xc
  | rsp code val =>
    obtain ⟨hcode, hw⟩ := (decodeRsp_eq_ok code val i).1 h
    exact ⟨hw, encode_of_decodeRspCode hcode⟩

/-- Settles O3: each of the words is decoded by computation. -/
theorem specWordsDecode : Obligations.SpecWordsDecode :=
  ⟨rfl, rfl, rfl, rfl, rfl, rfl, rfl, rfl, rfl, rfl, rfl, rfl, rfl, rfl⟩

end Sys2Proof.Machine
end

section
/-! Proofs about what an event and a step can do (10_state R32, 20_memory R40, 41_state_machine R100, R104): the
results of an event are listed once, and the invariants of the machine follow from the list. -/

namespace Sys2Proof.Machine

/-! ### Everything an event can answer -/

/-- What an event of the block can answer, one constructor a way to end it; `start` and `notify` have their own lists
(`start_next`, `notify_next`). -/
inductive BlockResult (s : State) : Instr → State → Prop
  /-- `INIT` (42_control_surface R110). -/
  | init : BlockResult s .init
      (respond .ok 0 (setState .idle (emit .none { s with pix := zeroPixels s.pix s.cfg.n })))
  /-- An accepted `UPDATE` (42_control_surface R111). -/
  | started {u : State} (hs : s.state = .idle) (h : start s = .next u) : BlockResult s .update (respond .ok 0 u)
  /-- `STATUS`, or a command that ends with an error (42_control_surface R112, 60_exceptions R131, R132). -/
  | answered (i : Instr) (code : ResultCode) (val : RspValue) : BlockResult s i (respond code val (emit .none s))
  /-- `ABORT` outside `Idle` (41_state_machine R98). -/
  | aborted : BlockResult s .abort (respond .ok 0 (abortRunning s))
  /-- A recognised progress signal (42_control_surface R117). -/
  | notified (sl : Slot) {t : State} (h : notify sl s = .next t) : BlockResult s (signalOf sl) t
  /-- An unrecognised progress signal (42_control_surface R118). -/
  | unrecognised (k : BitVec 1) : BlockResult s (.unrec k) (anomaly s)

/-- The list is complete: an event of the block that answers a next state answers one of these. -/
theorem exec_blockResult {i : Instr} {s t : State} (hi : isBlockEvent i = true) (h : exec i s = .next t) :
    BlockResult s i t := by
  cases i with
  | init => cases h; exact .init
  | update =>
    by_cases hs : s.state = .idle
    · rw [exec_update_idle s hs, andThen_eq_next] at h
      obtain ⟨u, hu, rfl⟩ := h
      exact .started hs hu
    · rw [exec_update_busy s hs] at h
      cases h
      exact .answered _ _ _
  | status => cases h; exact .answered _ _ _
  | abort =>
    by_cases hs : s.state = .idle
    · rw [exec_abort_idle s hs] at h
      cases h
      exact .answered _ _ _
    · rw [exec_abort_running s hs] at h
      cases h
      exact .aborted
  | reservedHost low => cases h
  | half => exact .notified .slot0 h
  | full => exact .notified .slot1 h
  | unrec k => cases h; exact .unrecognised k
  | _ => cases hi

/-- 60_exceptions R147 to R151, 30_encoding R64: a reception touches nothing of the block or its ports, and neither the
pending signals nor the trace. -/
theorem reception_frame {i : Instr} {s t : State} (hi : isBlockEvent i = false) (h : exec i s = .next t) :
    sameBlock s t ∧ t.xc = s.xc ∧ t.rsp = s.rsp ∧ t.hostCmd = s.hostCmd ∧ t.trace = s.trace ∧ t.pend = s.pend := by
  cases i with
  | xcNone => cases h; simp [sameBlock]
  | startCircular => cases h; simp [sameBlock, xeStart]
  | stopAfterHalf =>
    cases h
    unfold xeStopAfterHalf
    split <;> simp [sameBlock]
  | stopNow => cases h; simp [sameBlock, xeStopNow]
  | rspOk val => cases h; simp [sameBlock]
  | rspBusy val => cases h; simp [sameBlock]
  | rspNotRunning val => cases h; simp [sameBlock]
  | _ => cases hi

/-! ### What the events leave unchanged -/

/-- 20_memory R47, 10_state R32: `start` reads the store and writes the block and its port only. -/
theorem start_frame {s t : State} (h : start s = .next t) : sameEnvironment s t ∧ t.pix = s.pix := by
  obtain rfl | rfl := start_next h <;> simp [sameEnvironment]

/-- 20_memory R47, 10_state R32: `notify` reads the store and writes the block and its port only. -/
theorem notify_frame {sl : Slot} {s t : State} (h : notify sl s = .next t) :
    sameEnvironment s t ∧ t.pix = s.pix := by
  obtain ⟨-, p, rfl⟩ | ⟨-, rfl⟩ | ⟨-, rfl⟩ | ⟨-, rfl⟩ | ⟨-, rfl⟩ := notify_next h <;> simp [sameEnvironment]

/-- 10_state R32: an event of the block leaves the environment. -/
theorem BlockResult.sameEnvironment {i : Instr} {s t : State} (h : BlockResult s i t) :
    Machine.sameEnvironment s t := by
  cases h with
  | started _ h => exact (start_frame h).1
  | notified _ h => exact (notify_frame h).1
  | _ => simp [Machine.sameEnvironment]

/-- 20_memory R40: an event of the block that is not `INIT` leaves the store. -/
theorem BlockResult.pix {i : Instr} {s t : State} (h : BlockResult s i t) (hi : i ≠ .init) : t.pix = s.pix := by
  cases h with
  | init => exact absurd rfl hi
  | started _ h => exact (start_frame h).2
  | notified _ h => exact (notify_frame h).2
  | _ => simp

/-- 10_state R23, R24, 60_exceptions R149: no event writes the parameters or the pending signals. -/
theorem exec_cfg_pend {i : Instr} {s t : State} (h : exec i s = .next t) : t.cfg = s.cfg ∧ t.pend = s.pend := by
  cases hi : isBlockEvent i with
  | true =>
    obtain ⟨hcfg, -, -, hpend, -⟩ := (exec_blockResult hi h).sameEnvironment
    exact ⟨hcfg, hpend⟩
  | false =>
    obtain ⟨⟨hcfg, -⟩, -, -, -, -, hpend⟩ := reception_frame hi h
    exact ⟨hcfg, hpend⟩

/-- Settles O43: the two kinds of event have disjoint frames. -/
theorem portsSeparateAgents : Obligations.PortsSeparateAgents := by
  refine fun i s t h => ⟨fun hi => (exec_blockResult hi h).sameEnvironment, fun hi => ?_⟩
  obtain ⟨hblock, hxc, hrsp, hcmd, htrace, -⟩ := reception_frame hi h
  exact ⟨hblock, hxc, hrsp, hcmd, htrace⟩

/-- Settles O44: a reception leaves the block's store, and so does every event of the block but `INIT`. -/
theorem onlyInitWritesStore : Obligations.OnlyInitWritesStore := by
  intro i s t h hi
  cases hb : isBlockEvent i with
  | true => exact (exec_blockResult hb h).pix hi
  | false =>
    obtain ⟨⟨-, -, -, -, hpix⟩, -⟩ := reception_frame hb h
    exact hpix

/-- Settles O46: neither the fetch nor what it fetches writes the parameters. -/
theorem parametersNeverChange : Obligations.ParametersNeverChange := by
  intro s t h
  obtain ⟨-, ⟨w, u, i, hf, -, h⟩ | ⟨e, u, hf, h⟩ | ⟨-, rfl⟩⟩ := step_next h
  · exact (exec_cfg_pend h).1.trans (fetch_word hf).1.1
  · obtain ⟨r, rfl, -⟩ := fetch_action hf
    exact (envAct_next h).1
  · rfl

/-! ### The queue's codes (41_state_machine R104 (c)) -/

/-- The queue's codes are a matter of the parameters and the queue alone. -/
theorem queueCodes_congr {s t : State} (hc : t.cfg = s.cfg) (hq : t.q = s.q) : queueCodes t ↔ queueCodes s := by
  rw [queueCodes, queueCodes, hc, hq]

/-- 40_encoders R80: a frame holds the two calibrated codes. -/
theorem queueCodes_encodeFrame (p : Pixel) (sl : Slot) {s : State} (ho : offsetsPermute s.cfg = true)
    (h : queueCodes s) : queueCodes (encodeFrame p sl s) := by
  intro i
  rw [encodeFrame_cfg, encodeFrame_q, Fin.getElem_fin, getElem_frameInto _ ho]
  split
  · exact (frameCode_mem _ _ _).imp_right .inl
  · exact h i

/-- 40_encoders R83: a reset block holds the off code. -/
theorem queueCodes_encodeReset (sl : Slot) {s : State} (h : queueCodes s) : queueCodes (encodeReset sl s) := by
  intro i
  rw [encodeReset_cfg, encodeReset_q, Fin.getElem_fin, getElem_resetRun]
  split
  · exact .inr (.inr rfl)
  · exact h i

theorem queueCodes_checkDeadline (sl : Slot) (s : State) : queueCodes (checkDeadline sl s) ↔ queueCodes s :=
  queueCodes_congr (checkDeadline_cfg s sl) (checkDeadline_q s sl)

/-- 41_state_machine R90: `start` fills the queue through the encoders. -/
theorem start_queueCodes {s t : State} (ho : offsetsPermute s.cfg = true) (hq : queueCodes s)
    (h : start s = .next t) : queueCodes t := by
  have hfirst := queueCodes_encodeFrame (pixelAt s.pix 0) .slot0 (s := clearTorn s) ho hq
  obtain rfl | rfl := start_next h
  · exact (queueCodes_congr (beginCycle_cfg _ _ _) (beginCycle_q _ _ _)).2 (queueCodes_encodeReset .slot1 hfirst)
  · exact (queueCodes_congr (beginCycle_cfg _ _ _) (beginCycle_q _ _ _)).2
      (queueCodes_encodeFrame _ .slot1 (by simpa using ho) hfirst)

/-- 41_state_machine R92 to R96: `notify` refills a slot through an encoder, or leaves the queue. -/
theorem notify_queueCodes {sl : Slot} {s t : State} (ho : offsetsPermute s.cfg = true) (hq : queueCodes s)
    (h : notify sl s = .next t) : queueCodes t := by
  obtain ⟨-, p, rfl⟩ | ⟨-, rfl⟩ | ⟨-, rfl⟩ | ⟨-, rfl⟩ | ⟨-, rfl⟩ := notify_next h
  · exact queueCodes_encodeFrame p sl (by simpa using ho) ((queueCodes_checkDeadline sl _).2 hq)
  · exact (queueCodes_congr (setState_cfg _ _) (setState_q _ _)).2
      (queueCodes_encodeReset sl ((queueCodes_checkDeadline sl _).2 hq))
  · exact queueCodes_encodeReset sl ((queueCodes_checkDeadline sl _).2 hq)
  · exact hq
  · exact hq

/-- Settles O45: only the encoders write the queue, and they write the three codes. -/
theorem queueHoldsOnlyCodes : Obligations.QueueHoldsOnlyCodes := by
  intro i s t ho hq h
  cases hb : isBlockEvent i with
  | true =>
    cases exec_blockResult hb h with
    | started _ hu => exact (queueCodes_congr (respond_cfg _ _ _) (respond_q _ _ _)).2 (start_queueCodes ho hq hu)
    | notified _ hn => exact notify_queueCodes ho hq hn
    | _ => exact hq
  | false =>
    obtain ⟨⟨hcfg, -, -, hqueue, -⟩, -⟩ := reception_frame hb h
    exact (queueCodes_congr hcfg hqueue).2 hq

/-! ### The lifecycle (41_state_machine R100, R103, R104) -/

/-- 41_state_machine R104 is a matter of the parameters and the two registers. -/
theorem cursorInRange_congr {s t : State} (hc : t.cfg = s.cfg) (hs : t.state = s.state) (hv : t.cursor = s.cursor) :
    cursorInRange t ↔ cursorInRange s := by
  rw [cursorInRange, cursorInRange, hc, hs, hv]

theorem cursorInRange_idle {s : State} (h : s.state = .idle) : cursorInRange s := by
  rw [cursorInRange, h]
  trivial

theorem cursorInRange_active {s : State} (h : s.state = .active) :
    cursorInRange s ↔ 2 ≤ s.cfg.n ∧ 1 ≤ s.cursor.toNat ∧ s.cursor.toNat ≤ s.cfg.n - 1 := by
  rw [cursorInRange, h]

theorem cursorInRange_resetting {s : State} (h : s.state = .resetting) :
    cursorInRange s ↔ s.cursor.toNat ≤ s.cfg.resetCycles - 1 := by
  rw [cursorInRange, h]

/-- 42_control_surface R113, state by state. -/
theorem remaining_idle {s : State} (h : s.state = .idle) : remaining s = 0 := by
  rw [remaining, h]

theorem remaining_active {s : State} (h : s.state = .active) :
    remaining s = s.cfg.n - s.cursor.toNat + s.cfg.resetCycles := by
  rw [remaining, h]

theorem remaining_resetting {s : State} (h : s.state = .resetting) :
    remaining s = s.cfg.resetCycles - s.cursor.toNat := by
  rw [remaining, h]

/-- 41_state_machine R103: outside `Idle` a signal is still to come. -/
theorem remaining_pos {s : State} (hv : validConfig s.cfg = true) (hc : cursorInRange s) (hs : s.state ≠ .idle) :
    0 < remaining s := by
  obtain ⟨-, -, hr, -⟩ := bounds_of_valid _ hv
  cases h : s.state with
  | idle => exact absurd h hs
  | active =>
    rw [remaining_active h]
    omega
  | resetting =>
    rw [cursorInRange_resetting h] at hc
    rw [remaining_resetting h]
    omega

/-- 41_state_machine R90: with admitted parameters a cycle starts with the cursor in its range and
`N + RESET_CYCLES - 1` signals to come. -/
theorem start_begins {s : State} (hv : validConfig s.cfg = true) :
    ∃ t, start s = .next t ∧ t.cfg = s.cfg ∧ t.state ≠ .idle ∧ cursorInRange t ∧
      remaining t = s.cfg.n + s.cfg.resetCycles - 1 := by
  obtain ⟨hn, -⟩ := bounds_of_valid _ hv
  obtain hone | hmany : s.cfg.n = 1 ∨ 2 ≤ s.cfg.n := by omega
  · refine ⟨_, start_one s hone, by simp, by simp, ?_, ?_⟩
    · simp [cursorInRange]
    · simp [remaining, hone]
  · refine ⟨_, start_many s hmany, by simp, by simp, ?_, ?_⟩
    · simp [cursorInRange]
      omega
    · simp [remaining]
      omega

/-- 41_state_machine R103, R104: a recognised signal outside `Idle` keeps the cursor in its range and lowers the count
of signals to come by one. -/
theorem notify_counts {s : State} (sl : Slot) (hv : validConfig s.cfg = true) (hc : cursorInRange s)
    (hs : s.state ≠ .idle) :
    ∃ t, notify sl s = .next t ∧ t.cfg = s.cfg ∧ cursorInRange t ∧ remaining t + 1 = remaining s := by
  obtain ⟨-, hn, hr, hr', -⟩ := bounds_of_valid _ hv
  obtain ⟨h, hlt, ht⟩ | ⟨h, hlt, ht⟩ | ⟨h, hlt, ht⟩ | ⟨h, hlt, ht⟩ | ⟨h, -⟩ := notify_cases sl s hn
  · rw [cursorInRange_active h] at hc
    refine ⟨_, ht, by simp, ?_, ?_⟩
    · simp [cursorInRange, h]
      omega
    · simp [remaining, h]
      omega
  · rw [cursorInRange_active h] at hc
    refine ⟨_, ht, by simp, ?_, ?_⟩
    · simp [cursorInRange]
    · simp [remaining, h]
      omega
  · refine ⟨_, ht, by simp, ?_, ?_⟩
    · simp [cursorInRange, h]
      omega
    · simp [remaining, h]
      omega
  · rw [cursorInRange_resetting h] at hc
    refine ⟨_, ht, by simp, cursorInRange_idle (by simp), ?_⟩
    simp [remaining, h]
    omega
  · exact absurd h hs

/-- 20_memory R44: with admitted parameters `notify` always answers a next state. -/
theorem notify_total {s : State} (sl : Slot) (hv : validConfig s.cfg = true) : ∃ t, notify sl s = .next t := by
  obtain ⟨-, hn, -⟩ := bounds_of_valid _ hv
  obtain ⟨-, -, h⟩ | ⟨-, -, h⟩ | ⟨-, -, h⟩ | ⟨-, -, h⟩ | ⟨-, h⟩ := notify_cases sl s hn <;> exact ⟨_, h⟩

/-- An accepted `UPDATE` with admitted parameters: what `start_begins` says of `start`. -/
theorem exec_update_begins {s : State} (hv : validConfig s.cfg = true) (hs : s.state = .idle) :
    ∃ t, exec .update s = .next t ∧ t.cfg = s.cfg ∧ t.state ≠ .idle ∧ cursorInRange t ∧
      remaining t = s.cfg.n + s.cfg.resetCycles - 1 := by
  obtain ⟨t, ht, hcfg, hstate, hcursor, hrem⟩ := start_begins hv
  exact ⟨respond .ok 0 t, by rw [exec_update_idle s hs, ht, andThen], hcfg, hstate, hcursor, hrem⟩

/-- Settles O42: only the reserved command has no meaning; every other event reads pixels inside the store only. -/
theorem onlyReservedStops : Obligations.OnlyReservedStops := by
  intro i s hv
  cases i with
  | update =>
    by_cases hs : s.state = .idle
    · obtain ⟨t, ht, -⟩ := exec_update_begins hv hs
      exact .inl ⟨t, ht⟩
    · exact .inl ⟨_, exec_update_busy s hs⟩
  | abort =>
    by_cases hs : s.state = .idle
    · exact .inl ⟨_, exec_abort_idle s hs⟩
    · exact .inl ⟨_, exec_abort_running s hs⟩
  | reservedHost low => exact .inr ⟨low, rfl, exec_reservedHost low s⟩
  | half => exact .inl (notify_total .slot0 hv)
  | full => exact .inl (notify_total .slot1 hv)
  | _ => exact .inl ⟨_, rfl⟩

/-- 41_state_machine R100: only `UPDATE` leaves `Idle`, and `Active` is entered from `Idle` alone. -/
theorem exec_lifecycle {i : Instr} {s t : State} (h : exec i s = .next t) :
    (s.state = .idle → t.state ≠ .idle → i = .update) ∧ (s.state = .resetting → t.state ≠ .active) := by
  cases hb : isBlockEvent i with
  | true =>
    cases exec_blockResult hb h with
    | started hs _ => exact ⟨fun _ _ => rfl, fun hr => absurd (hs.symm.trans hr) nofun⟩
    | notified _ h =>
      obtain ⟨hs, p, rfl⟩ | ⟨hs, rfl⟩ | ⟨hs, rfl⟩ | ⟨hs, rfl⟩ | ⟨hs, rfl⟩ := notify_next h <;> simp [hs]
    | answered => exact ⟨fun hs ht => absurd hs ht, fun hs => by simp [hs]⟩
    | _ => simp
  | false =>
    obtain ⟨⟨-, hstate, -⟩, -⟩ := reception_frame hb h
    rw [hstate]
    exact ⟨absurd, fun hs => by simp [hs]⟩

/-- Settles O41: an environment action keeps `state` or forces `Idle`, and of the events only `UPDATE` leaves it. -/
theorem lifecycleTransitions : Obligations.LifecycleTransitions := by
  intro s t h
  have hrules : (s.state = .idle → t.state ≠ .idle → ∃ u, fetch s = .word (.host 0b001#3) u) ∧
      (s.state = .resetting → t.state ≠ .active) := by
    obtain ⟨-, ⟨w, u, i, hf, hw, h⟩ | ⟨e, u, hf, h⟩ | ⟨-, rfl⟩⟩ := step_next h
    · obtain ⟨⟨-, hstate, -⟩, -⟩ := fetch_word hf
      obtain ⟨hidle, hresetting⟩ := exec_lifecycle h
      rw [hstate] at hidle hresetting
      refine ⟨fun hs ht => ⟨u, ?_⟩, hresetting⟩
      obtain rfl := hidle hs ht
      rw [hf, ← (encodeDecodeAgree w .update hw).2, encode]
    · obtain ⟨r, rfl, -⟩ := fetch_action hf
      obtain ⟨-, ⟨hstate, -⟩ | hstate, -⟩ := envAct_next h <;> rw [hstate]
      · exact ⟨absurd, fun hs => by simp [hs]⟩
      · exact ⟨fun _ ht => absurd rfl ht, nofun⟩
    · exact ⟨absurd, fun hs => by simp [hs]⟩
  refine ⟨hrules.1, hrules.2, fun ht => ?_⟩
  cases hs : s.state with
  | idle => exact .inr rfl
  | active => exact .inl rfl
  | resetting => exact absurd ht (hrules.2 hs)

/-- Settles O14: outside `Idle` the signal is counted. -/
theorem signalLowersRemaining : Obligations.SignalLowersRemaining := by
  intro s sl hgood hs
  obtain ⟨t, ht, -, -, hrem⟩ := notify_counts sl hgood.valid hgood.cursor hs
  exact ⟨t, (exec_signalOf sl s).trans ht, hrem⟩

/-- 41_state_machine R103: a run of signals no longer than the count of signals to come lowers it by its length. -/
theorem runSignals_counts (sls : List Slot) : ∀ s : State, validConfig s.cfg = true → cursorInRange s →
    sls.length ≤ remaining s →
    ∃ t, runEvents (sls.map signalOf) s = .next t ∧ t.cfg = s.cfg ∧ cursorInRange t ∧
      remaining t + sls.length = remaining s := by
  induction sls with
  | nil => exact fun s _ hc _ => ⟨s, rfl, rfl, hc, rfl⟩
  | cons sl sls ih =>
    intro s hv hc hlen
    rw [List.length_cons] at hlen
    have hs : s.state ≠ .idle := fun hs => by
      rw [remaining_idle hs] at hlen
      omega
    obtain ⟨t, ht, hcfg, hct, hrem⟩ := notify_counts sl hv hc hs
    obtain ⟨u, hu, hcfg', hcu, hrem'⟩ := ih t (hcfg ▸ hv) hct (by omega)
    refine ⟨u, ?_, hcfg'.trans hcfg, hcu, by rw [List.length_cons]; omega⟩
    rw [List.map_cons, runEvents, exec_signalOf, ht]
    exact hu

/-- Settles O47: the count of signals to come begins at `N + RESET_CYCLES - 1`, each signal lowers it by one, and it is
0 exactly in `Idle`. -/
theorem cycleLength : Obligations.CycleLength := by
  intro s sls hv hs hlen
  obtain ⟨t, ht, hcfg, -, hct, hrem⟩ := exec_update_begins hv hs
  have hvt : validConfig t.cfg = true := hcfg ▸ hv
  obtain ⟨u, hu, hcfgu, hcu, hremu⟩ := runSignals_counts sls t hvt hct (by omega)
  refine ⟨t, u, ht, hu, ?_, fun k hk => ?_⟩
  · by_contra hne
    have := remaining_pos (hcfgu ▸ hvt) hcu hne
    omega
  · have hlenk : (sls.take k).length = k := by
      rw [List.length_take]
      omega
    obtain ⟨v, hv', -, -, hremv⟩ := runSignals_counts (sls.take k) t hvt hct (by omega)
    refine ⟨v, hv', fun hidle => ?_⟩
    rw [remaining_idle hidle] at hremv
    omega

/-! ### The invariant -/

/-- What the invariant says of two states that share the block and the store; the second has no more signals pending. -/
theorem GoodState.of_sameBlock {s t : State} (hs : GoodState s) (h : sameBlock s t)
    (hp : t.pend.length ≤ s.pend.length) : GoodState t := by
  obtain ⟨hcfg, hstate, hcursor, -, hpix⟩ := h
  obtain ⟨hvalid, hrange, hstore, hpending⟩ := hs
  refine ⟨hcfg ▸ hvalid, (cursorInRange_congr hcfg hstate hcursor).2 hrange, ?_, ?_⟩
  · rwa [storeGood, hcfg, hpix]
  · rw [promptPending, hcfg]
    exact fun hd => hp.trans (hpending hd)

/-- 42_control_surface R110: zeroing every pixel keeps the store's form. -/
theorem storeGood_zeroPixels {s : State} (h : storeGood s) :
    Memory.wf (zeroPixels s.pix s.cfg.n) = true ∧ memWithin (3 * s.cfg.n) (zeroPixels s.pix s.cfg.n) = true :=
  ⟨wf_zeroPixels _ h.1 _, memWithin_zeroPixels _ _ h.2 _ le_rfl⟩

/-- 41_state_machine R104 (a), (b): an event of the block leaves the cursor in its range. -/
theorem BlockResult.cursorInRange {i : Instr} {s t : State} (h : BlockResult s i t) (hv : validConfig s.cfg = true)
    (hc : Machine.cursorInRange s) : Machine.cursorInRange t := by
  cases h with
  | started hs h =>
    obtain ⟨t, ht, -, -, hct, -⟩ := start_begins hv
    rw [ht] at h
    cases h
    exact hct
  | notified sl h =>
    by_cases hs : s.state = .idle
    · rw [notify_idle _ s hs] at h
      cases h
      exact cursorInRange_idle rfl
    · obtain ⟨t, ht, -, hct, -⟩ := notify_counts sl hv hc hs
      rw [ht] at h
      cases h
      exact hct
  | answered => exact hc
  | _ => exact cursorInRange_idle rfl

/-- Every event keeps the invariant. -/
theorem GoodState.exec {i : Instr} {s t : State} (hs : GoodState s) (h : Machine.exec i s = .next t) :
    GoodState t := by
  obtain ⟨hcfg, hpend⟩ := exec_cfg_pend h
  cases hb : isBlockEvent i with
  | true =>
    have hr := exec_blockResult hb h
    refine ⟨hcfg ▸ hs.valid, hr.cursorInRange hs.valid hs.cursor, ?_, ?_⟩
    · by_cases hi : i = .init
      · subst hi
        cases h
        exact storeGood_zeroPixels hs.store
      · rw [storeGood, hcfg, hr.pix hi]
        exact hs.store
    · rw [promptPending, hcfg, hpend]
      exact hs.pending
  | false => exact hs.of_sameBlock (reception_frame hb h).1 (by rw [hpend])

/-- Every action of the environment keeps the invariant; a carrier period runs with no prompt signal waiting. -/
theorem GoodState.envAct {e : EnvAction} {s t : State} (hs : GoodState s)
    (hp : s.cfg.delivery = .prompt → s.pend = []) (h : Machine.envAct e s = .next t) : GoodState t := by
  cases e with
  | reset =>
    cases h
    exact ⟨hs.valid, cursorInRange_idle rfl, hs.store, hs.pending⟩
  | pixWrite i p =>
    obtain ⟨hi, rfl⟩ := (pixWrite_eq_next s t i p).1 h
    exact ⟨hs.valid, hs.cursor, ⟨wf_putPixel _ hs.store.1 _ _, memWithin_putPixel _ _ hs.store.2 _ _ hi⟩, hs.pending⟩
  | tick =>
    cases h
    obtain ⟨hcfg, hstate, hcursor, -, hpix⟩ := xeTick_block s
    refine ⟨hcfg ▸ hs.valid, (cursorInRange_congr hcfg hstate hcursor).2 hs.cursor, ?_, fun hd => ?_⟩
    · rw [storeGood, hcfg, hpix]
      exact hs.store
    · have hlen := xeTick_pend_length s
      rwa [hp (hcfg ▸ hd)] at hlen
  | holdLow k =>
    cases h
    unfold holdLow
    split
    · exact ⟨hs.valid, hs.cursor, hs.store, hs.pending⟩
    · exact hs

/-- Settles O48: the fetch shares the block with the state before, and the event or action it fetches keeps the
invariant. -/
theorem stepKeepsInvariant : Obligations.StepKeepsInvariant := by
  intro s t hs h
  obtain ⟨-, ⟨w, u, i, hf, -, h⟩ | ⟨e, u, hf, h⟩ | ⟨-, rfl⟩⟩ := step_next h
  · obtain ⟨hblock, -, -, -, hpend⟩ := fetch_word hf
    exact (hs.of_sameBlock hblock hpend).exec h
  · obtain ⟨r, rfl, hp⟩ := fetch_action hf
    exact (hs.of_sameBlock ⟨rfl, rfl, rfl, rfl, rfl⟩ le_rfl : GoodState { s with trace := r }).envAct hp h
  · exact hs

/-- Settles O49: after reset the state is `Idle`, and the store and the pending signals are empty. -/
theorem resetMeetsInvariant : Obligations.ResetMeetsInvariant := by
  have hreset : ∀ c : Config, validConfig c = true → GoodState (State.resetOf c) := fun c hv =>
    ⟨hv, cursorInRange_idle rfl, ⟨rfl, rfl⟩, fun _ => Nat.zero_le 1⟩
  exact ⟨hreset, hreset _ Tests.test_validConfig_example⟩

end Sys2Proof.Machine
end

section
/-! Proofs about a step (60_exceptions R135, R136, R138): what `fetch` answers where the ports are free and where they
are not, and what `step` makes of it. -/

namespace Sys2Proof.Machine

/-- 60_exceptions R138: with nothing on the ports and no prompt signal waiting, the host's commands come next. -/
theorem fetch_of_portsFree {s : State} (hxc : s.xc = .none) (hrsp : s.rsp = none)
    (hp : s.cfg.delivery = .prompt → s.pend = []) : fetch s = fetchCommand s := by
  obtain ⟨c, hc, hne, -⟩ | ⟨-, r, hr, -⟩ | ⟨-, -, k, ks, hd, hk, -⟩ | ⟨-, -, -, hf⟩ := fetch_cases s
  · exact absurd (hc.symm.trans hxc) hne
  · exact absurd (hrsp.symm.trans hr) nofun
  · exact absurd ((hp hd).symm.trans hk) nofun
  · exact hf

/-- 60_exceptions R136: a command that waits on its port is next. -/
theorem fetchCommand_of_waiting {s : State} {cmd : BitVec 3} (h : s.hostCmd = some cmd) :
    fetchCommand s = .word (.host cmd) { s with hostCmd := none } := by
  rw [fetchCommand, h]

/-- 30_encoding R73: with the ports free and no command waiting, the trace is next. -/
theorem fetch_of_idlePorts {s : State} (hxc : s.xc = .none) (hrsp : s.rsp = none)
    (hp : s.cfg.delivery = .prompt → s.pend = []) (hcmd : s.hostCmd = none) : fetch s = fetchTrace s := by
  rw [fetch_of_portsFree hxc hrsp hp, fetchCommand, hcmd]

/-- 60_exceptions R138: a command on the transfer-control port is received first. -/
theorem fetch_of_xc {s : State} (h : s.xc ≠ .none) :
    fetch s = .word (.xctl (xferWord s.xc)) { s with xc := .none } := by
  obtain ⟨c, rfl, -, hf⟩ | ⟨hxc, -⟩ | ⟨hxc, -⟩ | ⟨hxc, -⟩ := fetch_cases s
  · exact hf
  all_goals exact absurd hxc h

/-- 60_exceptions R138: with no command on its port, the other ports come next. -/
theorem fetch_of_noCommand {s : State} (h : s.xc = .none) : fetch s = fetchResponse s := by
  rw [fetch, h]

/-- 60_exceptions R138: then a response. -/
theorem fetch_of_rsp {s : State} {r : Response} (hxc : s.xc = .none) (hrsp : s.rsp = some r) :
    fetch s = .word (.rsp (resultWord r.code) r.val) { s with rsp := none } := by
  rw [fetch_of_noCommand hxc, fetchResponse, hrsp]

/-- 60_exceptions R135: then, with prompt delivery, the oldest pending signal. -/
theorem fetch_of_promptSignal {s : State} {k : Pending} {ks : List Pending} (hxc : s.xc = .none)
    (hrsp : s.rsp = none) (hd : s.cfg.delivery = .prompt) (hp : s.pend = k :: ks) :
    fetch s = .word (.prog (progressWord k.kind)) (deliverOldest k ks s) := by
  rw [fetch_of_noCommand hxc, fetchResponse, hrsp]
  simp only [fetchSignal, hd, hp]

/-- 60_exceptions R135: the word of the oldest pending signal delivers it. -/
theorem deliver_oldest {s : State} {k : Pending} {ks : List Pending} (h : s.pend = k :: ks) :
    deliver (progressWord k.kind) s = deliverOldest k ks s := by
  rw [deliver, h]
  exact if_pos rfl

/-- 60_exceptions R153: any other word is an extra signal, which delivers nothing. -/
theorem deliver_extra {s : State} {pk : BitVec 2} (h : ∀ k ks, s.pend = k :: ks → progressWord k.kind ≠ pk) :
    deliver pk s = { s with delay := none } := by
  rw [deliver]
  split
  · rfl
  · rename_i k ks hk
    exact if_neg (h k ks hk)

/-- 60_exceptions R138: a fetched word that decodes is run. -/
theorem step_word {s t : State} {w : PortWord} {i : Instr} (hv : validConfig s.cfg = true) (hf : fetch s = .word w t)
    (hw : decode w = .ok i) : step s = exec i t := by
  rw [step, if_pos hv, hf]
  simp only [runWord, hw]

/-- 00_scope R12: a fetched action is taken. -/
theorem step_action {s t : State} {e : EnvAction} (hv : validConfig s.cfg = true) (hf : fetch s = .action e t) :
    step s = envAct e t := by
  rw [step, if_pos hv, hf]

/-- Settles O5: `step` runs what `fetch` took from the state. -/
theorem stepRunsDecodedInstruction : Obligations.StepRunsDecodedInstruction :=
  fun _ _ _ _ hv hf hw => step_word hv hf hw

/-- Settles O6: the other answers of `fetch`, and the refusal of parameters that are not admitted. -/
theorem stepOtherwise : Obligations.StepOtherwise := by
  refine ⟨fun _ _ _ hv hf => step_action hv hf, fun s hv hf => ?_, fun s hv => ?_⟩
  · rw [step, if_pos hv, hf]
  · rw [step, if_neg (by rw [hv]; exact Bool.false_ne_true)]

/-- Settles O7: both entries are reached with the ports free. -/
theorem signalBeforeCommand : Obligations.SignalBeforeCommand := by
  refine ⟨fun s cmd pk rest hxc hrsp hp hcmd htrace => ?_, fun s cmd hxc hrsp hp hcmd => ?_⟩
  · rw [fetch_of_idlePorts hxc hrsp hp hcmd, fetchTrace, htrace]
  · rw [fetch_of_portsFree hxc hrsp hp, fetchCommand_of_waiting hcmd]

/-- Settles O51: a progress word is delivered, and `deliver` compares it with the oldest pending signal. -/
theorem deliveryInOrder : Obligations.DeliveryInOrder := by
  refine ⟨fun s pk rest hxc hrsp hp hcmd htrace => ?_, fun _ _ _ h => deliver_oldest h, fun _ _ h => deliver_extra h⟩
  rw [fetch_of_idlePorts hxc hrsp hp hcmd, fetchTrace, htrace]

/-- Settles O53: with the ports free the head of the trace is fetched. -/
theorem traceGoesInOrder : Obligations.TraceGoesInOrder := by
  intro s hxc hrsp hp hcmd
  have hf := fetch_of_idlePorts hxc hrsp hp hcmd
  refine ⟨fun cmd rest h => ?_, fun e rest h => ?_, fun h => ?_⟩ <;> rw [hf, fetchTrace, h]

/-- Settles O8: the three ports, each with those before it free. -/
theorem portsGoFirst : Obligations.PortsGoFirst :=
  ⟨fun _ h => fetch_of_xc h, fun _ _ hxc hrsp => fetch_of_rsp hxc hrsp,
    fun _ _ _ hxc hrsp hd hp => fetch_of_promptSignal hxc hrsp hd hp⟩

end Sys2Proof.Machine
end

section
/-! Proofs about the `STATUS` result (42_control_surface R112 to R115). -/

namespace Sys2Proof.Machine

/-- 42_control_surface R112: `STATUS` writes the two ports only. -/
theorem exec_status (s : State) : exec .status s = .next (respond .ok (statusValue s) (emit .none s)) := rfl

/-- 42_control_surface R112: 0 in `Idle`. -/
theorem statusValue_idle {s : State} (hs : s.state = .idle) : statusValue s = 0 := by
  rw [statusValue, hs]

/-- 42_control_surface R112: minus the estimate in any other state. -/
theorem statusValue_busy {s : State} (hs : s.state ≠ .idle) : statusValue s = statusBusy s := by
  rw [statusValue]
  split
  · contradiction
  · rfl
  · rfl

/-- 42_control_surface R113: no more signals are to come than a whole cycle has. -/
theorem remaining_le (s : State) : remaining s ≤ s.cfg.n + s.cfg.resetCycles := by
  unfold remaining
  split <;> omega

/-- 42_control_surface R114: the estimate of admitted parameters is below `2 ^ 31`. -/
theorem estUs_lt {s : State} (hv : validConfig s.cfg = true) : estUs s < 2 ^ 31 := by
  obtain ⟨-, -, -, -, -, hbound⟩ := bounds_of_valid _ hv
  exact lt_of_le_of_lt (Nat.div_le_div_right (Nat.mul_le_mul_right _ (remaining_le s))) hbound

/-- 42_control_surface R114: below `2 ^ 31` the result is minus the estimate, without overflow. -/
theorem statusBusy_toInt {s : State} (h : estUs s < 2 ^ 31) : (statusBusy s).toInt = -((max 1 (estUs s) : Nat) : Int) :=
  BitVec.toInt_ofInt_eq_self (by decide) (by omega) (by omega)

/-- Settles O12: the estimate is the formula written out. -/
theorem statusAnswers : Obligations.StatusAnswers := by
  intro s
  refine ⟨fun hs => ?_, fun hs => ?_, fun hs => ?_⟩ <;> rw [exec_status]
  · rw [statusValue_idle hs]
    rfl
  · rw [statusValue_busy (by simp [hs]), statusBusy, estUs, remaining_active hs]
    rfl
  · rw [statusValue_busy (by simp [hs]), statusBusy, estUs, remaining_resetting hs]
    rfl

/-- Settles O13: `max 1` keeps the magnitude at 1 or more, and the bound of the parameters keeps it in 31 bits. -/
theorem statusSign : Obligations.StatusSign := by
  intro s hgood
  have hbusy : s.state ≠ .idle →
      (statusValue s).toInt = -((max 1 (estUs s) : Nat) : Int) ∧ (statusValue s).toInt ≤ -1 := fun hs => by
    rw [statusValue_busy hs, statusBusy_toInt (estUs_lt hgood.valid)]
    exact ⟨rfl, by omega⟩
  refine ⟨_, _, exec_status s, rfl, ⟨fun h0 => ?_, statusValue_idle⟩, hbusy⟩
  by_contra hs
  have hneg := (hbusy hs).2
  rw [h0] at hneg
  exact absurd hneg (by decide)

end Sys2Proof.Machine
end

section
/-! Proofs about the store and the encoders (20_memory R42 to R44; 40_encoders R80 to R83; 30_encoding R68). -/

namespace Sys2Proof.Machine

/-- Settles O33: the store is canonical, so the pixel reads back as written and every other one as before. -/
theorem pixelWriteThenRead : Obligations.PixelWriteThenRead := by
  refine fun s i p ⟨hwf, _⟩ => ⟨fun hi => ⟨_, (pixWrite_eq_next s _ i p).2 ⟨hi, rfl⟩, fun j => ?_, rfl, rfl, rfl, rfl,
    rfl, by simp [sameEnvironment], rfl, rfl⟩, fun hi => if_neg (by omega)⟩
  simp only [pixRead, pixelAt_putPixel s.pix hwf]
  split_ifs with hj hji
  · rfl
  · rfl
  · omega
  · rfl

/-- 40_encoders R82: the frame's word is `(g << 16) | (r << 8) | b`. -/
theorem toNat_frameWord (p : Pixel) :
    (frameWord p).toNat = p.g.toNat * 65536 + p.r.toNat * 256 + p.b.toNat := by
  rw [frameWord, BitVec.toNat_append, BitVec.toNat_append, ← Nat.shiftLeft_add_eq_or_of_lt p.b.isLt,
    ← Nat.shiftLeft_add_eq_or_of_lt p.r.isLt, Nat.shiftLeft_eq, Nat.shiftLeft_eq]
  omega

/-- 40_encoders R82, R85: with the documented offsets element `k` carries bit `23 - k` of the frame's word. -/
theorem frameCode_documented {c : Config} (p : Pixel) (hg : c.offG = 0) (hr : c.offR = 8) (hb : c.offB = 16) {k : Nat}
    (hk : k < 24) : frameCode c p k = code c ((frameWord p).getLsbD (23 - k)) := by
  rw [frameCode, frameWord, BitVec.getLsbD_append, BitVec.getLsbD_append, hg, hr, hb]
  obtain h | h | h : k < 8 ∨ (8 ≤ k ∧ k < 16) ∨ 16 ≤ k := by omega
  · rw [if_pos (by omega), if_neg (by omega), if_neg (by omega)]
    congr 2
    omega
  · rw [if_neg (by omega), if_pos (by omega), if_neg (by omega), if_pos (by omega)]
    congr 2
    omega
  · rw [if_neg (by omega), if_neg (by omega), if_pos (by omega)]

/-- 00_scope R9: the two calibrated codes differ, so a code tells its bit. -/
theorem code_injective {c : Config} (h : calibrated c = true) {b b' : Bool} (hc : code c b = code c b') : b = b' := by
  have hne : c.zeroCode ≠ c.oneCode := fun he => by
    have hord := codes_ordered c h
    rw [he] at hord
    omega
  cases b <;> cases b'
  · rfl
  · exact absurd hc hne
  · exact absurd hc.symm hne
  · rfl

/-- 40_encoders R82: the frame's word holds every bit of the pixel. -/
theorem frameWord_injective {p p' : Pixel} (h : frameWord p = frameWord p') : p = p' := by
  have hnat := congrArg BitVec.toNat h
  rw [toNat_frameWord, toNat_frameWord] at hnat
  have hr := p.r.isLt
  have hr' := p'.r.isLt
  have hb := p.b.isLt
  have hb' := p'.b.isLt
  have hreq : p.r = p'.r := BitVec.eq_of_toNat_eq (by omega)
  have hgeq : p.g = p'.g := BitVec.eq_of_toNat_eq (by omega)
  have hbeq : p.b = p'.b := BitVec.eq_of_toNat_eq (by omega)
  cases p
  cases p'
  exact Pixel.mk.injEq .. ▸ ⟨hreq, hgeq, hbeq⟩

/-- Settles O34: element by element, the code of the word's bit, and the word is the number. -/
theorem frameFollowsWireOrder : Obligations.FrameFollowsWireOrder := by
  intro c p hg hr hb
  refine ⟨List.map_congr_left fun k hk => frameCode_documented p hg hr hb (List.mem_range.1 hk), fun k hk => ?_⟩
  rw [frameCode_documented p hg hr hb hk, code, ← toNat_frameWord, BitVec.testBit_toNat]

/-- Settles O35: equal frames have equal codes, these have equal bits, and the bits make up the pixel. -/
theorem frameInjective : Obligations.FrameInjective := by
  intro c p p' hc h
  refine frameWord_injective (BitVec.eq_of_getLsbD_eq fun i hi => code_injective hc ?_)
  have hk := List.map_inj_left.1 h (23 - i) (List.mem_range.2 (by rw [frameLen]; omega))
  rwa [show 23 - (23 - i) = i by omega] at hk

/-- Settles O36: the two encoders, slot by slot. -/
theorem encodersWriteOneSlot : Obligations.EncodersWriteOneSlot := fun s sl p ho =>
  ⟨(encodeFrame_slot p sl s ho).1, (encodeFrame_slot p sl s ho).2, encodeReset_slot sl s⟩

end Sys2Proof.Machine
end

section
/-! Proofs about the transfer engine, the carrier and the other actions of the environment (60_exceptions R147 to R155,
70_reset_and_hazards R170, R183). -/

namespace Sys2Proof.Machine

/-! ### The engine receives a command -/

/-- 60_exceptions R150: a running engine becomes stop-pending, and nothing else changes. -/
theorem xeStopAfterHalf_eq (s : State) :
    xeStopAfterHalf s = { s with xeMode := if s.xeMode = .running then .stopPending else s.xeMode } := by
  unfold xeStopAfterHalf
  split <;> rename_i h
  · rw [if_pos h]
  · rw [if_neg (by simp [h])]
  · rw [if_neg (by simp [h])]

/-- Settles O23: the restart writes the engine only, and the latch rule is the record's condition. -/
theorem startCircularRestarts : Obligations.StartCircularRestarts := by
  intro s
  refine ⟨xeStart (logCommand .startCircular s), rfl, rfl, rfl, rfl, ?_⟩
  have hlatch := latchTooShort_iff (logCommand .startCircular s)
  simp only [logCommand_dataSeen, logCommand_xeMode, logCommand_lowRun, logCommand_cfg] at hlatch
  simp [xeStart, sameBlock, hlatch]

/-- Settles O24: the command is logged and the mode changes as `xeStopAfterHalf_eq` says. -/
theorem stopAfterHalfIsGraceful : Obligations.StopAfterHalfIsGraceful := fun s =>
  congrArg Host.Outcome.next (xeStopAfterHalf_eq (logCommand .stopAfterHalf s))

/-- Settles O25: the stop writes the mode, the line, a draw and the latch count only. -/
theorem stopNowStops : Obligations.StopNowStops := by
  intro s
  refine ⟨xeStopNow (logCommand .stopNow s), rfl, ?_⟩
  simp [xeStopNow, sameBlock, noNewHazard]

/-- Settles O26: the command is no instruction. -/
theorem noneDoesNothing : Obligations.NoneDoesNothing := fun _ => rfl

/-- Settles O27: each response is logged. -/
theorem responsesReachHost : Obligations.ResponsesReachHost := fun _ _ => ⟨rfl, rfl, rfl⟩

/-! ### A carrier period -/

/-- 60_exceptions R154: the count of high ticks is at most the period. -/
theorem highTicks_le (c : Config) (d : DutyCode) : highTicks c d ≤ c.periodTicks := min_le_right _ _

/-- 60_exceptions R154: every level of a period without high ticks is low, and otherwise some level is high. -/
theorem periodLevels_low_iff (c : Config) (d : DutyCode) :
    (∀ l ∈ periodLevels c d, l = .low) ↔ highTicks c d = 0 := by
  refine ⟨fun h => ?_, fun h0 l hl => ?_⟩
  · by_contra h0
    exact absurd (h .high (List.mem_append_left _ (List.mem_replicate.2 ⟨h0, rfl⟩))) nofun
  · rw [periodLevels, h0, List.replicate_zero, List.nil_append] at hl
    exact List.eq_of_mem_replicate hl

theorem periodLevels_high_iff (c : Config) (d : DutyCode) :
    (∃ l ∈ periodLevels c d, l = .high) ↔ highTicks c d ≠ 0 := by
  simp [periodLevels, List.mem_append, List.mem_replicate]

/-- 60_exceptions R154: one level a timer tick. -/
theorem length_periodLevels (c : Config) (d : DutyCode) : (periodLevels c d).length = c.periodTicks := by
  have := highTicks_le c d
  simp [periodLevels]
  omega

/-- 60_exceptions R154: high first, then low. -/
theorem getElem?_periodLevels (c : Config) (d : DutyCode) {j : Nat} (hj : j < c.periodTicks) :
    (periodLevels c d)[j]? = some (if j < highTicks c d then .high else .low) := by
  rw [periodLevels, List.getElem?_append, List.length_replicate]
  split
  · rw [List.getElem?_replicate_of_lt (by assumption)]
  · rw [List.getElem?_replicate_of_lt (by omega)]

/-- The off code's period has no high tick. -/
theorem highTicks_offCode (c : Config) : highTicks c offCode = 0 := Nat.zero_min _

/-- Settles O30: the two replicated runs of levels. -/
theorem periodShape : Obligations.PeriodShape := by
  intro s d hp
  refine ⟨length_periodLevels _ _, fun j hj => getElem?_periodLevels _ _ hj, ?_, ?_, ?_,
    (periodLevels_low_iff _ _).2 (highTicks_offCode _)⟩
  · rw [List.getLast?_eq_getElem?, length_periodLevels, getElem?_periodLevels _ _ (by omega), emitPeriod_line]
    have := highTicks_le s.cfg d
    congr 1
    split_ifs
    · omega
    · rfl
    · rfl
    · omega
  · rw [emitPeriod_lowRun]
    exact if_congr (periodLevels_low_iff _ _).symm rfl rfl
  · rw [emitPeriod_dataSeen, Bool.or_eq_true, decide_eq_true_eq, periodLevels_high_iff]

/-- 60_exceptions R148: where a half ends, the signal is that of the slot just left. -/
theorem atBoundary_slot (sl : Slot) {s : State} (h : s.rp.val = (slotBase sl + 24) % 48) :
    atBoundary s = boundary (kindOf sl) s := by
  cases sl with
  | slot0 => exact atBoundary_half s h
  | slot1 => exact atBoundary_full s h

/-- 60_exceptions R148: the pointer advances with wrap. -/
theorem val_pointer_succ (rp : Fin 48) : (rp + 1).val = (rp.val + 1) % 48 := Fin.val_add rp 1

/-- 60_exceptions R154: what a period leaves behind is a matter of its code, not of the record of codes. -/
theorem emitPeriod_copyCode (d : DutyCode) (s : State) :
    (emitPeriod d (copyCode d s)).line = (emitPeriod d s).line ∧
      (emitPeriod d (copyCode d s)).lowRun = (emitPeriod d s).lowRun ∧
      (emitPeriod d (copyCode d s)).dataSeen = (emitPeriod d s).dataSeen := ⟨rfl, rfl, rfl⟩

/-- 60_exceptions R149: a running engine raises its signal. -/
theorem boundary_of_running (k : ProgressKind) {s : State} (h : s.xeMode = .running) :
    boundary k s = { s with pend := s.pend ++ [{ kind := k, raisedAt := s.periods }] } := by
  rw [boundary, h]

/-- 60_exceptions R149, R155: a stop-pending engine stops. -/
theorem boundary_of_stopPending (k : ProgressKind) {s : State} (h : s.xeMode = .stopPending) :
    boundary k s = { s with xeMode := .stopped, line := .low } := by
  rw [boundary, h]

/-- 60_exceptions R148: what every carrier period of an engine that is not stopped does, and what it leaves. -/
theorem xeTick_frame {s : State} (h : s.xeMode ≠ .stopped) :
    (xeTick s).wave = s.wave ++ [copiedCode s] ∧ (xeTick s).rp.val = (s.rp.val + 1) % 48 ∧ sameBlock s (xeTick s) ∧
      noNewHazard s (xeTick s) ∧ (xeTick s).xc = s.xc ∧ (xeTick s).rsp = s.rsp ∧ (xeTick s).hostCmd = s.hostCmd ∧
      (xeTick s).trace = s.trace ∧ (xeTick s).xcLog = s.xcLog ∧ (xeTick s).rspLog = s.rspLog ∧
      (xeTick s).lowRun = (emitPeriod (copiedCode s) s).lowRun ∧
      (xeTick s).dataSeen = (emitPeriod (copiedCode s) s).dataSeen ∧ (xeTick s).periods = s.periods + 1 ∧
      (xeTick s).delay = s.delay := by
  rw [xeTick_enabled s h]
  simp [atBoundary_frame, sameBlock, noNewHazard, val_pointer_succ, emitPeriod_copyCode, -emitPeriod_lowRun,
    -emitPeriod_dataSeen]

/-- 60_exceptions R148: inside a half nothing is raised and the engine goes on. -/
theorem xeTick_inside {s : State} (h : s.xeMode ≠ .stopped) (h23 : s.rp.val ≠ 23) (h47 : s.rp.val ≠ 47) :
    (xeTick s).pend = s.pend ∧ (xeTick s).xeMode = s.xeMode ∧
      (xeTick s).line = (emitPeriod (copiedCode s) s).line := by
  have hrp := val_pointer_succ s.rp
  rw [xeTick_enabled s h, atBoundary_inside _ (by simp only [advancePointer_rp, emitPeriod_rp, copyCode_rp]; omega)
    (by simp only [advancePointer_rp, emitPeriod_rp, copyCode_rp]; omega)]
  exact ⟨rfl, rfl, rfl⟩

/-- 60_exceptions R148: the period that ends a half. -/
theorem xeTick_slotEnd (sl : Slot) {s : State} (h : s.xeMode ≠ .stopped) (hrp : s.rp.val = slotBase sl + 23) :
    xeTick s =
      boundary (kindOf sl) (advancePointer (emitPeriod (copiedCode s) (copyCode (copiedCode s) s))) := by
  rw [xeTick_enabled s h, atBoundary_slot sl]
  simp only [advancePointer_rp, emitPeriod_rp, copyCode_rp, val_pointer_succ, hrp]

/-- 60_exceptions R149: a running engine raises the signal of the slot it has left. -/
theorem xeTick_raises (sl : Slot) {s : State} (h : s.xeMode = .running) (hrp : s.rp.val = slotBase sl + 23) :
    (xeTick s).pend = s.pend ++ [{ kind := kindOf sl, raisedAt := s.periods + 1 }] ∧ (xeTick s).xeMode = .running ∧
      (xeTick s).line = (emitPeriod (copiedCode s) s).line := by
  rw [xeTick_slotEnd sl (by simp [h]) hrp, boundary_of_running _ (by simpa using h)]
  exact ⟨rfl, h, rfl⟩

/-- 60_exceptions R149, R155: a stop-pending engine stops, with the line low. -/
theorem xeTick_stops (sl : Slot) {s : State} (h : s.xeMode = .stopPending) (hrp : s.rp.val = slotBase sl + 23) :
    (xeTick s).pend = s.pend ∧ (xeTick s).xeMode = .stopped ∧ (xeTick s).line = .low := by
  rw [xeTick_slotEnd sl (by simp [h]) hrp, boundary_of_stopPending _ (by simpa using h)]
  exact ⟨rfl, rfl, rfl⟩

/-- The queue index that ends a half ends one of the two slots. -/
theorem slotEnd_cases {i : Nat} (h : i = 23 ∨ i = 47) : ∃ sl, i = slotBase sl + 23 := by
  obtain rfl | rfl := h
  · exact ⟨.slot0, rfl⟩
  · exact ⟨.slot1, rfl⟩

/-- 60_exceptions R155: an engine that goes on leaves the line as the code's period does. -/
theorem xeTick_line {s : State} (h : s.xeMode ≠ .stopped) (ht : (xeTick s).xeMode ≠ .stopped) :
    (xeTick s).line = (emitPeriod (copiedCode s) s).line := by
  by_cases hend : s.rp.val = 23 ∨ s.rp.val = 47
  · obtain ⟨sl, hrp⟩ := slotEnd_cases hend
    cases hm : s.xeMode with
    | stopped => exact absurd hm h
    | running => exact (xeTick_raises sl hm hrp).2.2
    | stopPending => exact absurd (xeTick_stops sl hm hrp).2.1 ht
  · rw [not_or] at hend
    exact (xeTick_inside h hend.1 hend.2).2.2

/-- Settles O28: the frame of a carrier period, and what it does inside a half and at the end of each slot. -/
theorem tickCopiesOneCode : Obligations.TickCopiesOneCode := by
  intro s h
  obtain ⟨hwave, hrp, hblock, hhaz, hxc, hrsp, hcmd, htrace, hxl, hrl, hlow, hdata, hper, hdelay⟩ := xeTick_frame h
  refine ⟨xeTick s, copiedCode s, rfl, fun ht => by rw [copiedCode, ht]; rfl, hwave, hrp, hblock, hhaz, hxc, hrsp, hcmd,
    htrace, hxl, hrl, fun h23 h47 => ?_, fun hr hm => ?_, fun hr hm => ?_, fun hr hm => ?_, xeTick_line h, hlow,
    hdata, hper, hdelay⟩
  · obtain ⟨hpend, hmode, -⟩ := xeTick_inside h h23 h47
    exact ⟨hpend, hmode⟩
  · obtain ⟨hpend, hmode, -⟩ := xeTick_raises .slot0 hm hr
    exact ⟨hpend, hmode⟩
  · obtain ⟨hpend, hmode, -⟩ := xeTick_raises .slot1 hm hr
    exact ⟨hpend, hmode⟩
  · obtain ⟨sl, hsl⟩ := slotEnd_cases hr
    exact xeTick_stops sl hm hsl

/-- Settles O29: the period is not enabled. -/
theorem tickNeedsRunningEngine : Obligations.TickNeedsRunningEngine := fun _ h =>
  congrArg Host.Outcome.next (if_pos h)

/-! ### The other actions -/

/-- Settles O52: both branches of the action. -/
theorem holdLowCounts : Obligations.HoldLowCounts := fun _ _ =>
  ⟨fun h => congrArg Host.Outcome.next (if_pos h), fun h => congrArg Host.Outcome.next (if_neg h)⟩

/-- Settles O31: the action writes the block's registers, its queue, its two ports and the count of draws. -/
theorem hardwareResetForcesIdle : Obligations.HardwareResetForcesIdle := by
  intro s
  refine ⟨hardwareReset s, rfl, ?_⟩
  simp [hardwareReset, noNewHazard]

/-- Settles O32: the values named at reset. -/
theorem resetLeavesIdle : Obligations.ResetLeavesIdle := fun _ => ⟨rfl, rfl, rfl, rfl, rfl⟩

end Sys2Proof.Machine
end

section
/-! Proofs about the hazards (70_reset_and_hazards R180, R181, R184). -/

namespace Sys2Proof.Machine

/-! ### The record of a refill -/

/-- 41_state_machine R92 to R94: a refill answers a next state; its two tests, made in order, never both record. -/
theorem notify_refill {s : State} (sl : Slot) (hv : validConfig s.cfg = true) (hr : refills s) :
    ∃ t, notify sl s = .next t ∧ t.torn = (s.torn || (late s && !overlaps sl s) || overlaps sl s) ∧
      t.hazards = s.hazards ++ (if late s && !overlaps sl s then [.tornWrite] else []) ++
        (if overlaps sl s then [.tornWrite] else []) := by
  obtain ⟨-, hn, -⟩ := bounds_of_valid _ hv
  obtain ⟨-, -, ht⟩ | ⟨-, -, ht⟩ | ⟨-, -, ht⟩ | ⟨hs, hc, -⟩ | ⟨hs, -⟩ := notify_cases sl s hn
  · exact ⟨_, ht, by simp, by simp⟩
  · exact ⟨_, ht, by simp, by simp⟩
  · exact ⟨_, ht, by simp, by simp⟩
  · obtain hs' | ⟨-, hc'⟩ := hr
    · exact absurd (hs.symm.trans hs') nofun
    · exact absurd hc' hc
  · obtain hs' | ⟨hs', -⟩ := hr <;> exact absurd (hs.symm.trans hs') nofun

/-- Settles O37: `tornHere` is the disjunction of the two tests. -/
theorem tornWriteRecorded : Obligations.TornWriteRecorded := by
  intro s sl hv hr
  obtain ⟨t, ht, htorn, hhaz⟩ := notify_refill sl hv hr
  refine ⟨t, (exec_signalOf sl s).trans ht, ?_⟩
  rw [tornHere_iff, htorn, hhaz]
  cases late s <;> cases overlaps sl s <;> simp

/-- 70_reset_and_hazards R181: `d` periods after it left the slot, the pointer is back inside only from 24 periods on,
so the refill is torn exactly from there on. -/
theorem tornHere_delayed {s : State} (sl : Slot) {d : Nat} (hm : s.xeMode = .running)
    (hrp : s.rp.val = (slotBase sl + 24 + d) % 48) (hd : s.delay = some d) : tornHere sl s ↔ 24 ≤ d := by
  have hinside : slotBase sl ≤ s.rp.val → s.rp.val ≤ slotBase sl + 23 → 24 ≤ d := by
    rw [hrp]
    cases sl <;> simp only [slotBase, frameLen] <;> omega
  refine ⟨fun ⟨_, h⟩ => ?_, fun h => ⟨by simp [hm], .inr ⟨d, hd, h⟩⟩⟩
  obtain ⟨hlo, hhi⟩ | ⟨d', hd', hle⟩ := h
  · exact hinside hlo hhi
  · rw [hd, Option.some.injEq] at hd'
    rwa [hd']

/-- 60_exceptions R135, 70_reset_and_hazards R181: the oldest signal, raised now and delivered `d` carrier periods later,
finds the block as it was, the engine `d` elements on, and the delay noted. -/
theorem deliver_after {s : State} {k : ProgressKind} {ks : List Pending} (d : Nat) (hm : s.xeMode = .running)
    (htorn : s.torn = false) (hp : s.pend = { kind := k, raisedAt := s.periods } :: ks) :
    ∃ v, deliver (progressWord k) (ticks d s) = v ∧ v.cfg = s.cfg ∧ v.state = s.state ∧ v.cursor = s.cursor ∧
      v.xeMode = .running ∧ v.torn = false ∧ v.rp.val = (s.rp.val + d) % 48 ∧ v.delay = some d ∧
      v.hazards = s.hazards := by
  obtain ⟨hmode, htorn', hrp, hper, hhaz, ⟨ks', hks⟩, hcfg, hstate, hcursor, -⟩ := ticks_running d s hm htorn
  rw [hp, List.cons_append] at hks
  have hdelay : (ticks d s).periods - s.periods = d := by omega
  exact ⟨_, deliver_oldest hks, hcfg, hstate, hcursor, hmode, htorn', hrp, congrArg some hdelay, hhaz⟩

/-- Settles O39: the engine runs on while the signal waits, and the refill is torn as its delay says. -/
theorem refillDeadline : Obligations.RefillDeadline := by
  intro s sl ks d hv hr hm htorn hrp hpend
  obtain ⟨v, hdeliver, hcfg, hstate, hcursor, hmode, hvtorn, hptr, hdelay, hhaz⟩ := deliver_after d hm htorn hpend
  have hrefills : refills v := by
    rw [refills, hstate, hcursor, hcfg]
    exact hr
  have hhere : tornHere sl v ↔ 24 ≤ d := tornHere_delayed sl hmode (by omega) hdelay
  obtain ⟨t, ht, htt, hyes, hno⟩ := tornWriteRecorded v sl (hcfg ▸ hv) hrefills
  rw [hvtorn, hhere] at htt
  rw [hhere, hhaz] at hyes hno
  refine ⟨t, hdeliver ▸ ht, by simpa using htt, ?_⟩
  split_ifs with hd
  · exact hyes hd
  · rw [List.append_nil]
    exact hno hd

/-! ### The record of `UPDATE` -/

/-- 41_state_machine R90: `start` writes each slot once, in a cycle that begins untorn. -/
theorem exec_update_record {s : State} (hv : validConfig s.cfg = true) (hs : s.state = .idle) :
    ∃ t, exec .update s = .next t ∧ t.rsp = some { code := .ok, val := 0 } ∧ t.xc = .startCircular ∧
      t.xeMode = s.xeMode ∧ t.torn = (overlaps .slot0 s || overlaps .slot1 s) ∧
      t.hazards = s.hazards ++ (if overlaps .slot0 s then [.tornWrite] else []) ++
        (if overlaps .slot1 s then [.tornWrite] else []) := by
  obtain ⟨hn, -⟩ := bounds_of_valid _ hv
  rw [exec_update_idle s hs]
  obtain hone | hmany : s.cfg.n = 1 ∨ 2 ≤ s.cfg.n := by omega
  · rw [start_one s hone]
    exact ⟨_, rfl, rfl, rfl, by simp, by simp, by simp; rfl⟩
  · rw [start_many s hmany]
    exact ⟨_, rfl, rfl, rfl, by simp, by simp, by simp; rfl⟩

/-- 70_reset_and_hazards R180: a stopped engine is inside no slot. -/
theorem overlaps_stopped (sl : Slot) {s : State} (h : s.xeMode = .stopped) : overlaps sl s = false := by
  rw [← Bool.not_eq_true, overlaps_iff]
  exact fun ⟨hm, _⟩ => hm h

/-- 70_reset_and_hazards R180: an engine that is not stopped is inside exactly one slot. -/
theorem overlaps_slot1 {s : State} (h : s.xeMode ≠ .stopped) : overlaps .slot1 s = !overlaps .slot0 s := by
  rw [overlaps, overlaps, inSlot_slot1 _ s.rp.isLt, decide_eq_true h, Bool.true_and, Bool.true_and]

/-- Settles O38: the engine is inside neither slot. -/
theorem updateAtRestIsClean : Obligations.UpdateAtRestIsClean := by
  intro s hv hs hm
  obtain ⟨t, ht, -, -, -, htorn, hhaz⟩ := exec_update_record hv hs
  refine ⟨t, ht, ?_, ?_⟩
  · rw [htorn, overlaps_stopped _ hm, overlaps_stopped _ hm, Bool.or_false]
  · rw [hhaz, overlaps_stopped _ hm, overlaps_stopped _ hm]
    simp

/-- Settles O40: the engine is inside one of the two slots, so one of the two writes is torn. -/
theorem updateInFinalDrain : Obligations.UpdateInFinalDrain := by
  intro s hv hs hm
  have hone := overlaps_slot1 (s := s) (by simp [hm])
  obtain ⟨t, ht, hrsp, hxc, hmode, htorn, hhaz⟩ := exec_update_record hv hs
  refine ⟨t, xeStart (logCommand .startCircular { t with xc := .none }), ht, hrsp, hxc, ?_, ?_, hmode.trans hm, rfl,
    rfl, rfl⟩
  · rw [htorn, hone, Bool.or_not_self]
  · rw [hhaz, hone]
    cases overlaps .slot0 s <;> simp

end Sys2Proof.Machine
end

section
/-! Proof of the transmitted stream (41_state_machine R106): one invariant for every carrier period of a cycle, which a
period and what follows it carry on to the next one. -/

namespace Sys2Proof.Machine

/-! ### Runs of steps -/

/-- The first of several steps, taken apart. -/
theorem run_succ (M : Host.Core) (k : Nat) {s t : M.State} (h : M.step s = .next t) :
    M.run (k + 1) s = M.run k t := by
  rw [Host.Core.run, h]

/-- Some number of steps leads from `s` to `t`. -/
def Reaches (s t : State) : Prop := ∃ k, Host.Core.run core k s = .next t

theorem Reaches.refl (s : State) : Reaches s s := ⟨0, rfl⟩

/-- A step, then more steps. -/
theorem Reaches.step {s t u : State} (h : Machine.step s = .next t) (ht : Reaches t u) : Reaches s u := by
  obtain ⟨k, hk⟩ := ht
  exact ⟨k + 1, (run_succ core k h).trans hk⟩

/-- Steps, then more steps. -/
theorem run_add (M : Host.Core) (j k : Nat) : ∀ {s t : M.State}, M.run j s = .next t → M.run (j + k) s = M.run k t := by
  induction j with
  | zero =>
    intro s t h
    cases h
    rw [Nat.zero_add]
  | succ j ih =>
    intro s t h
    rw [Host.Core.run] at h
    split at h
    · rename_i u hu
      rw [Nat.succ_add, run_succ M _ hu, ih h]
    · cases h
    · cases h

theorem Reaches.trans {s t u : State} (h : Reaches s t) (h' : Reaches t u) : Reaches s u := by
  obtain ⟨j, hj⟩ := h
  obtain ⟨k, hk⟩ := h'
  exact ⟨j + k, (run_add core j k hj).trans hk⟩

/-! ### The stream of a cycle -/

/-- The blocks of a cycle: every pixel's frame and the reset blocks (41_state_machine R106). -/
def blocks (s : State) : Nat := s.cfg.n + s.cfg.resetCycles

theorem blocks_eq (s : State) : blocks s = s.cfg.n + s.cfg.resetCycles := rfl

/-- Element `m` of the stream of a cycle (41_state_machine R106). -/
def streamCode (s : State) (m : Nat) : DutyCode :=
  if m / 24 < s.cfg.n then frameCode s.cfg (pixelAt s.pix (m / 24)) (m % 24) else offCode

/-- A block below `N` is that pixel's frame. -/
theorem streamCode_frame (s : State) {j k : Nat} (hj : j < s.cfg.n) (hk : k < 24) :
    streamCode s (24 * j + k) = frameCode s.cfg (pixelAt s.pix j) k := by
  have hdiv : (24 * j + k) / 24 = j := by omega
  rw [streamCode, hdiv, if_pos hj, Nat.mul_add_mod, Nat.mod_eq_of_lt hk]

/-- From element `24 × N` on the codes are off. -/
theorem streamCode_latch (s : State) {m : Nat} (h : 24 * s.cfg.n ≤ m) : streamCode s m = offCode :=
  if_neg (by omega)

/-- Rows of 24 elements, one after another, are one list of all their elements. -/
theorem flatMap_rows (f : Nat → Nat → DutyCode) (n : Nat) :
    ((List.range n).flatMap fun i => (List.range 24).map (f i)) =
      (List.range (24 * n)).map fun m => f (m / 24) (m % 24) := by
  induction n with
  | zero => rfl
  | succ n ih =>
    rw [List.range_succ (n := n), List.flatMap_append, ih, Nat.mul_succ, List.range_add, List.map_append, List.map_map,
      List.flatMap_singleton]
    congr 1
    refine List.map_congr_left fun k hk => ?_
    have hk := List.mem_range.1 hk
    rw [Function.comp_apply, Nat.mul_add_mod, Nat.mod_eq_of_lt hk, show (24 * n + k) / 24 = n by omega]

/-- The stream of a cycle, element by element. -/
theorem cycleStream_eq (s : State) : cycleStream s = (List.range (24 * blocks s)).map (streamCode s) := by
  rw [cycleStream, frameLen, flatMap_rows, blocks, Nat.mul_add, List.range_add, List.map_append, List.map_map]
  congr 1
  · exact List.map_congr_left fun m hm => (if_pos (by have := List.mem_range.1 hm; omega)).symm
  · refine (List.eq_replicate_iff.2 ⟨by simp, fun c hc => ?_⟩).symm
    obtain ⟨k, -, rfl⟩ := List.mem_map.1 hc
    exact streamCode_latch s (Nat.le_add_right _ _)

/-! ### The slots of the blocks -/

/-- The slot a block is sent from: the blocks alternate (41_state_machine R106). -/
def slotOf (j : Nat) : Slot := if j % 2 = 0 then .slot0 else .slot1

theorem slotBase_slotOf (j : Nat) : slotBase (slotOf j) = 24 * (j % 2) := by
  obtain h | h : j % 2 = 0 ∨ j % 2 = 1 := by omega
  · rw [slotOf, if_pos h, h]
    rfl
  · rw [slotOf, if_neg (by omega), h]
    rfl

/-- The slot of a block is free again for the block after the next. -/
theorem slotOf_add_two (j : Nat) : slotOf (j + 2) = slotOf j := by
  rw [slotOf, slotOf, Nat.add_mod_right]

/-- The slot holds block `j` of the stream. -/
def holdsBlock (s : State) (j : Nat) (q : Vector DutyCode 48) : Prop :=
  slotHolds q (slotOf j) fun k => streamCode s (24 * j + k)

/-- 20_memory R46: a refill of the slot of one block leaves the next block. -/
theorem holdsBlock_of_refill {s : State} {j : Nat} {q q' : Vector DutyCode 48} (h : holdsBlock s (j + 1) q)
    (ho : sameOutside (slotOf j) q q') : holdsBlock s (j + 1) q' := by
  intro i hi
  refine (ho i ?_).trans (h i hi)
  rw [← Bool.not_eq_true, inSlot_iff]
  rw [inSlot_iff] at hi
  rw [slotBase_slotOf] at hi ⊢
  omega

/-- A slot that holds a pixel's frame holds its block. -/
theorem holdsBlock_frame {s : State} {j : Nat} {q : Vector DutyCode 48} {sl : Slot} (hsl : sl = slotOf j)
    (hj : j < s.cfg.n) (h : slotHolds q sl (frameCode s.cfg (pixelAt s.pix j))) : holdsBlock s j q := by
  subst hsl
  intro i hi
  have hi' := (inSlot_iff _ _).1 hi
  exact (h i hi).trans (streamCode_frame s hj (by omega)).symm

/-- A slot that holds off codes holds a reset block. -/
theorem holdsBlock_latch {s : State} {j : Nat} {q : Vector DutyCode 48} {sl : Slot} (hsl : sl = slotOf j)
    (hj : s.cfg.n ≤ j) (h : slotHolds q sl fun _ => offCode) : holdsBlock s j q := by
  subst hsl
  intro i hi
  exact (h i hi).trans (streamCode_latch s (by omega)).symm

/-- 60_exceptions R148: the pointer reads the element of the stream that is next. -/
theorem queue_at_pointer {s : State} {m : Nat} {q : Vector DutyCode 48} {rp : Fin 48} (hrp : rp.val = m % 48)
    (h : holdsBlock s (m / 24) q) : q[rp] = streamCode s m := by
  have hbase := slotBase_slotOf (m / 24)
  refine (h rp ((inSlot_iff _ _).2 (by omega))).trans (congrArg (streamCode s) ?_)
  omega

/-! ### The invariant -/

/-- Where the block stands while block `j` of the cycle begun in `s` is being sent. -/
structure Stage (s : State) (j : Nat) (t : State) : Prop where
  playing : holdsBlock s j t.q
  queued : j + 1 < blocks s → holdsBlock s (j + 1) t.q
  feeding : j + 1 < s.cfg.n → t.state = .active ∧ t.cursor.toNat = j + 1
  latching : s.cfg.n ≤ j + 1 → j + 1 < blocks s → t.state = .resetting ∧ t.cursor.toNat = j + 1 - s.cfg.n
  running : j + 1 < blocks s → t.xeMode = .running
  draining : j + 1 = blocks s → t.state = .idle ∧ t.xeMode = .stopPending

/-- What the first `m` carrier periods of the cycle begun in `s` have left: their codes, the low they counted, the rest of
the trace, and nothing on the ports. -/
structure Copied (s : State) (m : Nat) (t : State) : Prop where
  cfg : t.cfg = s.cfg
  pix : t.pix = s.pix
  xc : t.xc = .none
  rsp : t.rsp = none
  hostCmd : t.hostCmd = none
  torn : t.torn = false
  rp : t.rp.val = m % 48
  wave : t.wave = (List.range m).map (streamCode s)
  lowRun : m - 24 * s.cfg.n ≤ t.lowRun
  trace : t.trace = List.replicate (24 * blocks s - m) (.env .tick)

/-- Between two carrier periods of the cycle begun in `s`, after the first `m`. -/
structure Streaming (s : State) (m : Nat) (t : State) : Prop extends Copied s m t where
  pend : t.pend = []
  stage : Stage s (m / 24) t

/-- The stage is a matter of the queue, the registers and the engine's mode. -/
theorem Stage.congr {s t u : State} {j : Nat} (h : Stage s j t) (hq : u.q = t.q) (hs : u.state = t.state)
    (hc : u.cursor = t.cursor) (hm : u.xeMode = t.xeMode) : Stage s j u where
  playing := hq ▸ h.playing
  queued := hq ▸ h.queued
  feeding := hs ▸ hc ▸ h.feeding
  latching := hs ▸ hc ▸ h.latching
  running := hm ▸ h.running
  draining := hs ▸ hm ▸ h.draining

/-- While a block is being sent the engine is not stopped. -/
theorem Stage.not_stopped {s t : State} {j : Nat} (h : Stage s j t) (hj : j < blocks s) : t.xeMode ≠ .stopped := by
  obtain hlt | heq : j + 1 < blocks s ∨ j + 1 = blocks s := by omega
  · simp [h.running hlt]
  · simp [(h.draining heq).2]

/-- 41_state_machine R92 to R94: with blocks left, the signal that ends block `j` finds the block refilling. -/
theorem Stage.refills {s t : State} {j : Nat} (h : Stage s j t) (hcfg : t.cfg = s.cfg) (hj : j + 2 < blocks s) :
    Machine.refills t := by
  obtain hfeed | hlatch : j + 1 < s.cfg.n ∨ s.cfg.n ≤ j + 1 := by omega
  · exact .inl (h.feeding hfeed).1
  · obtain ⟨hstate, hcursor⟩ := h.latching hlatch (by omega)
    have hb := blocks_eq s
    exact .inr ⟨hstate, by rw [hcfg, hcursor]; omega⟩

/-- Two parts of the environment the steps of a cycle turn on. -/
theorem sameEnvironment_engine {s t : State} (h : sameEnvironment s t) : t.xeMode = s.xeMode ∧ t.pend = s.pend := by
  obtain ⟨-, hmode, -, hpend, -⟩ := h
  exact ⟨hmode, hpend⟩

/-- An event of the block that emits nothing leaves what the carrier periods have left. -/
theorem Copied.of_signal {s t u : State} {m : Nat} (h : Copied s m t) (he : sameEnvironment t u) (hpix : u.pix = t.pix)
    (hxc : u.xc = .none) (hrsp : u.rsp = t.rsp) (htorn : u.torn = false) : Copied s m u := by
  obtain ⟨hcfg, -, hrp, -, -, hwave, hlow, -, -, -, -, -, -, hcmd, htrace⟩ := he
  exact ⟨hcfg.trans h.cfg, hpix.trans h.pix, hxc, hrsp.trans h.rsp, hcmd.trans h.hostCmd, htorn,
    (congrArg Fin.val hrp).trans h.rp, hwave.trans h.wave, hlow ▸ h.lowRun, htrace.trans h.trace⟩

/-- Block `j` has been sent and its slot refilled with block `j + 2`: block `j + 1` is being sent. -/
theorem Stage.next {s t u : State} {j : Nat} (h : Stage s j t) (hj : j + 2 < blocks s)
    (hfill : holdsBlock s (j + 2) u.q) (hout : sameOutside (slotOf j) t.q u.q) (he : sameEnvironment t u)
    (hfeed : j + 2 < s.cfg.n → u.state = .active ∧ u.cursor.toNat = j + 2)
    (hlatch : s.cfg.n ≤ j + 2 → u.state = .resetting ∧ u.cursor.toNat = j + 2 - s.cfg.n) : Stage s (j + 1) u where
  playing := holdsBlock_of_refill (h.queued (by omega)) hout
  queued := fun _ => hfill
  feeding := hfeed
  latching := fun hn _ => hlatch hn
  running := fun _ => (sameEnvironment_engine he).1.trans (h.running (by omega))
  draining := fun hd => absurd hd (by omega)

/-- 41_state_machine R92 to R94: the signal that ends block `j` fills its slot with block `j + 2`. -/
theorem Stage.signal {s t : State} {j m : Nat} (h : Stage s j t) (hv : validConfig s.cfg = true) (hc : Copied s m t)
    (hj : j + 2 < blocks s) :
    ∃ u, exec (signalOf (slotOf j)) t = .next u ∧ Stage s (j + 1) u ∧ u.xc = .none ∧ u.rsp = t.rsp ∧ u.pix = t.pix ∧
      sameEnvironment t u := by
  have hvt : validConfig t.cfg = true := hc.cfg ▸ hv
  have hslot := (slotOf_add_two j).symm
  obtain hfeed | hlast | hlatch : j + 2 < s.cfg.n ∨ j + 2 = s.cfg.n ∨ s.cfg.n < j + 2 := by omega
  · obtain ⟨hstate, hcursor⟩ := h.feeding (by omega)
    obtain ⟨u, hu, hs, hcu, hfill, hout, hxc, hrsp, hpix, he⟩ :=
      signalFeedsNextPixel t (slotOf j) hvt hstate (by rw [hc.cfg, hcursor]; omega)
    rw [hc.cfg, hc.pix, hcursor] at hfill
    exact ⟨u, hu, h.next hj (holdsBlock_frame hslot hfeed hfill) hout he (fun _ => ⟨hs, by omega⟩)
      (fun hn => by omega), hxc, hrsp, hpix, he⟩
  · obtain ⟨hstate, hcursor⟩ := h.feeding (by omega)
    obtain ⟨u, hu, hs, hcu, hfill, hout, hxc, hrsp, hpix, he⟩ :=
      signalBeginsLatch t (slotOf j) hstate (by rw [hc.cfg, hcursor]; omega)
    exact ⟨u, hu, h.next hj (holdsBlock_latch hslot hlast.ge hfill) hout he (fun hn => by omega)
      (fun _ => ⟨hs, by rw [hcu, hlast, Nat.sub_self]; rfl⟩), hxc, hrsp, hpix, he⟩
  · obtain ⟨hstate, hcursor⟩ := h.latching (by omega) (by omega)
    have hb := blocks_eq s
    obtain ⟨u, hu, hs, hcu, hfill, hout, hxc, hrsp, hpix, he⟩ :=
      signalContinuesLatch t (slotOf j) hvt hstate (by rw [hc.cfg, hcursor]; omega)
    exact ⟨u, hu, h.next hj (holdsBlock_latch hslot hlatch.le hfill) hout he (fun hn => by omega)
      (fun _ => ⟨hs, by omega⟩), hxc, hrsp, hpix, he⟩

/-- 70_reset_and_hazards R180: the signal that ends block `j`, delivered in time, tears nothing. -/
theorem Stage.signal_untorn {s t : State} {j m : Nat} (h : Stage s j t) (hv : validConfig s.cfg = true)
    (hc : Copied s m t) (hp : t.pend = []) (hj : j + 2 < blocks s) (hm : m / 24 = j + 1)
    (htorn : ¬ tornHere (slotOf j) t) : ∃ u, exec (signalOf (slotOf j)) t = .next u ∧ Streaming s m u := by
  obtain ⟨u, hu, hstage, hxc, hrsp, hpix, he⟩ := h.signal hv hc hj
  obtain ⟨u', hu', hiff, -⟩ := tornWriteRecorded t (slotOf j) (hc.cfg ▸ hv) (h.refills hc.cfg hj)
  rw [hu, Host.Outcome.next.injEq] at hu'
  subst hu'
  have hut : u.torn = false := by
    rw [← Bool.not_eq_true, hiff, hc.torn]
    simp [htorn]
  exact ⟨u, hu, hc.of_signal he hpix hxc hrsp hut, (sameEnvironment_engine he).2.trans hp, hm ▸ hstage⟩

/-! ### The steps of a cycle -/

/-- The state in which a carrier period runs: the trace has it no more. -/
def tickTaken (s : State) (m : Nat) (t : State) : State :=
  { t with trace := List.replicate (24 * blocks s - (m + 1)) (.env .tick) }

/-- 60_exceptions R148: between two carrier periods the next one is what is fetched. -/
theorem Streaming.step {s t : State} {m : Nat} (h : Streaming s m t) (hv : validConfig s.cfg = true)
    (hm : m < 24 * blocks s) : Machine.step t = .next (xeTick (tickTaken s m t)) := by
  have htrace : t.trace = .env .tick :: List.replicate (24 * blocks s - (m + 1)) (.env .tick) := by
    rw [h.trace, ← List.replicate_succ]
    congr 1
    omega
  exact step_action (h.cfg ▸ hv) ((traceGoesInOrder t h.xc h.rsp (fun _ => h.pend) h.hostCmd).2.1 _ _ htrace)

/-- 60_exceptions R148, R154: a carrier period copies the next code of the stream and counts its low. -/
theorem Streaming.copied_tick {s t : State} {m : Nat} (h : Streaming s m t) (hm : m < 24 * blocks s) :
    Copied s (m + 1) (xeTick (tickTaken s m t)) := by
  have hcode : copiedCode (tickTaken s m t) = streamCode s m := by
    rw [copiedCode, show (tickTaken s m t).torn = false from h.torn]
    exact queue_at_pointer h.rp h.stage.playing
  obtain ⟨hwave, hrp, ⟨hcfg, -, -, -, hpix⟩, ⟨htorn, -⟩, hxc, hrsp, hcmd, htrace, -, -, hlow, -⟩ :=
    xeTick_frame (s := tickTaken s m t) (h.stage.not_stopped (by omega))
  rw [hcode] at hwave hlow
  refine ⟨hcfg.trans h.cfg, hpix.trans h.pix, hxc.trans h.xc, hrsp.trans h.rsp, hcmd.trans h.hostCmd,
    htorn.trans h.torn, ?_, ?_, ?_, htrace⟩
  · have hrp' := h.rp
    rw [hrp, show (tickTaken s m t).rp = t.rp from rfl]
    omega
  · rw [hwave, show (tickTaken s m t).wave = t.wave from rfl, h.wave, List.range_succ, List.map_append,
      List.map_singleton]
  · obtain hframe | hlatch : m < 24 * s.cfg.n ∨ 24 * s.cfg.n ≤ m := by omega
    · omega
    · have hcount := h.lowRun
      rw [hlow, streamCode_latch s hlatch, emitPeriod_lowRun, if_pos (highTicks_offCode _),
        show (tickTaken s m t).lowRun = t.lowRun from rfl]
      omega

/-- A carrier period leaves the stage, but for the engine's mode. -/
theorem Streaming.stage_tick {s t : State} {m : Nat} (h : Streaming s m t)
    (hmode : (xeTick (tickTaken s m t)).xeMode = t.xeMode) : Stage s (m / 24) (xeTick (tickTaken s m t)) := by
  obtain ⟨-, hstate, hcursor, hq, -⟩ := xeTick_block (tickTaken s m t)
  exact h.stage.congr hq hstate hcursor hmode

/-- 30_encoding R65: a signal of the engine is the word of its event. -/
theorem decode_signal (sl : Slot) : decode (.prog (progressWord (kindOf sl))) = .ok (signalOf sl) := by
  cases sl <;> rfl

/-- 41_state_machine R95, 60_exceptions R150: the last signal ends the cycle, and the engine drains the last block. -/
theorem Stage.last_signal {s t : State} {j m : Nat} (h : Stage s j t) (hv : validConfig s.cfg = true)
    (hc : Copied s m t) (hp : t.pend = []) (hj : j + 2 = blocks s) (hm : m / 24 = j + 1) :
    ∃ u v, exec (signalOf (slotOf j)) t = .next u ∧ step u = .next v ∧ Streaming s m v := by
  obtain ⟨-, -, hr, -⟩ := bounds_of_valid _ hv
  have hb := blocks_eq s
  obtain ⟨hstate, hcursor⟩ := h.latching (by omega) (by omega)
  have hstage : Stage s (j + 1) { t with state := .idle, xeMode := .stopPending } := {
    playing := h.queued (by omega)
    queued := fun hlt => absurd hlt (by omega)
    feeding := fun hlt => absurd hlt (by omega)
    latching := fun _ hlt => absurd hlt (by omega)
    running := fun hlt => absurd hlt (by omega)
    draining := fun _ => ⟨rfl, rfl⟩ }
  refine ⟨_, _, signalEndsCycle t (slotOf j) hstate (by rw [hc.cfg, hcursor]; omega),
    (step_word (i := .stopAfterHalf) ?_ (fetch_of_xc (by exact nofun)) rfl).trans (stopAfterHalfIsGraceful _), ?_⟩
  · exact hc.cfg ▸ hv
  · exact ⟨⟨hc.cfg, hc.pix, rfl, hc.rsp, hc.hostCmd, hc.torn, hc.rp, hc.wave, hc.lowRun, hc.trace⟩, hp,
      hm ▸ hstage.congr rfl rfl rfl (if_pos (h.running (by omega)))⟩

/-- 60_exceptions R135: with prompt delivery the signal that ends block `j` is taken before the next carrier period. -/
theorem Stage.block_ends {s t : State} {j : Nat} (h : Stage s j t) (hv : validConfig s.cfg = true)
    (hd : s.cfg.delivery = .prompt) (hc : Copied s (24 * (j + 1)) t)
    (hp : t.pend = [{ kind := kindOf (slotOf j), raisedAt := t.periods }]) (hj : j + 1 < blocks s) :
    ∃ u, Reaches t u ∧ Streaming s (24 * (j + 1)) u := by
  have hstep := step_word (hc.cfg ▸ hv) (fetch_of_promptSignal hc.xc hc.rsp (hc.cfg ▸ hd) hp) (decode_signal (slotOf j))
  have hdiv : 24 * (j + 1) / 24 = j + 1 := by omega
  have hstage : Stage s j (deliverOldest { kind := kindOf (slotOf j), raisedAt := t.periods } [] t) :=
    h.congr rfl rfl rfl rfl
  have hcopied : Copied s (24 * (j + 1)) (deliverOldest { kind := kindOf (slotOf j), raisedAt := t.periods } [] t) :=
    ⟨hc.cfg, hc.pix, hc.xc, hc.rsp, hc.hostCmd, hc.torn, hc.rp, hc.wave, hc.lowRun, hc.trace⟩
  obtain hmore | hlast : j + 2 < blocks s ∨ j + 2 = blocks s := by omega
  · have htorn := tornHere_delayed (slotOf j) (d := 0) (hstage.running hj)
      (by rw [hcopied.rp, slotBase_slotOf]; omega) (congrArg some (Nat.sub_self _))
    obtain ⟨u, hu, hs⟩ := hstage.signal_untorn hv hcopied rfl hmore hdiv (by rw [htorn]; omega)
    exact ⟨u, .step (hstep.trans hu) (.refl u), hs⟩
  · obtain ⟨u, v, hu, hv', hs⟩ := hstage.last_signal hv hcopied rfl hlast hdiv
    exact ⟨v, .step (hstep.trans hu) (.step hv' (.refl v)), hs⟩

/-- A carrier period that is not the last, with the signal it may raise, leads to the next one. -/
theorem Streaming.advance {s t : State} {m : Nat} (h : Streaming s m t) (hv : validConfig s.cfg = true)
    (hd : s.cfg.delivery = .prompt) (hm : m + 1 < 24 * blocks s) : ∃ u, Reaches t u ∧ Streaming s (m + 1) u := by
  have hstep := h.step hv (by omega)
  have hc := h.copied_tick (by omega)
  have hne : (tickTaken s m t).xeMode ≠ .stopped := h.stage.not_stopped (by omega)
  have hrp : (tickTaken s m t).rp.val = m % 48 := h.rp
  obtain hin | hend : (m + 1) / 24 = m / 24 ∨ m + 1 = 24 * (m / 24 + 1) := by omega
  · obtain ⟨hpend, hmode, -⟩ := xeTick_inside hne (by omega) (by omega)
    exact ⟨_, .step hstep (.refl _), hc, hpend.trans h.pend, hin ▸ h.stage_tick hmode⟩
  · have hrun : (tickTaken s m t).xeMode = .running := h.stage.running (by omega)
    obtain ⟨hpend, hmode, -⟩ := xeTick_raises (slotOf (m / 24)) hrun (by rw [hrp, slotBase_slotOf]; omega)
    obtain ⟨-, -, -, -, -, -, -, -, -, -, -, -, hper, -⟩ := xeTick_frame hne
    rw [show (tickTaken s m t).pend = [] from h.pend, List.nil_append, ← hper] at hpend
    rw [hend] at hc ⊢
    obtain ⟨u, hu, hs⟩ := (h.stage_tick (hmode.trans hrun.symm)).block_ends hv hd hc hpend (by omega)
    exact ⟨u, .step hstep hu, hs⟩

/-- 60_exceptions R156: the last carrier period stops the engine and finishes the trace. -/
theorem Streaming.finish {s t : State} {m : Nat} (h : Streaming s m t) (hv : validConfig s.cfg = true)
    (hm : m + 1 = 24 * blocks s) :
    ∃ u, Reaches t u ∧ finished u ∧ Copied s (24 * blocks s) u := by
  have hc := h.copied_tick (by omega)
  rw [hm] at hc
  obtain ⟨hstate, hmode⟩ := h.stage.draining (by omega)
  obtain ⟨-, hstate', -⟩ := xeTick_block (tickTaken s m t)
  obtain ⟨hpend, hstop, -⟩ := xeTick_stops (s := tickTaken s m t) (slotOf (m / 24)) hmode
    (by rw [show (tickTaken s m t).rp.val = m % 48 from h.rp, slotBase_slotOf]; omega)
  refine ⟨_, .step (h.step hv (by omega)) (.refl _), ⟨?_, hc.hostCmd, hc.xc, hc.rsp, hstate'.trans hstate, hstop,
    hpend.trans h.pend⟩, hc⟩
  rw [hc.trace, Nat.sub_self, List.replicate_zero]

/-- From any carrier period of the cycle on, the whole stream is sent. -/
theorem Streaming.reaches_end {s : State} (hv : validConfig s.cfg = true) (hd : s.cfg.delivery = .prompt) (k : Nat) :
    ∀ (m : Nat) (t : State), m + 1 + k = 24 * blocks s → Streaming s m t →
      ∃ u, Reaches t u ∧ finished u ∧ Copied s (24 * blocks s) u := by
  induction k with
  | zero => exact fun m t hm h => h.finish hv hm
  | succ k ih =>
    intro m t hm h
    obtain ⟨u, hu, hs⟩ := h.advance hv hd (by omega)
    obtain ⟨w, hw, hend⟩ := ih (m + 1) u (by omega) hs
    exact ⟨w, hu.trans hw, hend⟩

/-- 41_state_machine R90: an accepted `UPDATE` has queued the first two blocks for the engine. -/
theorem update_stage {s t : State} (hv : validConfig s.cfg = true) (hs : s.state = .idle)
    (ht : exec .update s = .next t) : Stage s 0 { t with xeMode := .running } := by
  obtain ⟨hn, -, hr, -⟩ := bounds_of_valid _ hv
  have hb := blocks_eq s
  obtain ⟨t', ht', hslot0, hone, hmany, -⟩ := updateStartsCycle s hv hs
  rw [ht, Host.Outcome.next.injEq] at ht'
  subst ht'
  have hplaying : holdsBlock s 0 t.q := holdsBlock_frame rfl hn hslot0
  obtain h1 | h2 : s.cfg.n = 1 ∨ 2 ≤ s.cfg.n := by omega
  · obtain ⟨hstate, hcursor, hslot1⟩ := hone h1
    exact {
      playing := hplaying
      queued := fun _ => holdsBlock_latch rfl h1.le hslot1
      feeding := fun hlt => absurd hlt (by omega)
      latching := fun _ _ => ⟨hstate, by rw [show _ = _ from hcursor, h1]; rfl⟩
      running := fun _ => rfl
      draining := fun he => absurd he (by omega) }
  · obtain ⟨hstate, hcursor, hslot1⟩ := hmany h2
    exact {
      playing := hplaying
      queued := fun _ => holdsBlock_frame rfl h2 hslot1
      feeding := fun _ => ⟨hstate, congrArg BitVec.toNat hcursor⟩
      latching := fun hle => absurd hle (by omega)
      running := fun _ => rfl
      draining := fun he => absurd he (by omega) }

/-- 60_exceptions R138, R147: after an `UPDATE` at rest the engine receives `START_CIRCULAR` and the host `Ok`, and the
cycle's first carrier period is next. -/
theorem update_streams {s : State} (hv : validConfig s.cfg = true) (hs : s.state = .idle) (hm : s.xeMode = .stopped)
    (hp : s.pend = []) (hcmd : s.hostCmd = none)
    (htrace : s.trace = List.replicate (24 * blocks s) (.env .tick)) :
    ∃ t u, exec .update s = .next t ∧ Reaches t u ∧ Streaming s 0 u := by
  obtain ⟨t, ht, -, -, -, hxc, hrsp, hpix, hcfg, -, -, hpend, -, -, -, -, -, -, -, -, -, hcmd', htrace'⟩ :=
    updateStartsCycle s hv hs
  obtain ⟨t', ht', htorn, -⟩ := updateAtRestIsClean s hv hs hm
  rw [ht, Host.Outcome.next.injEq] at ht'
  subst ht'
  obtain ⟨u, hu, hrun, hrp, hwave, hupend, -, -, -, ⟨hucfg, hustate, hucursor, huq, hupix⟩, huxc, hursp, hucmd, hutrace,
    -, -, -, -, -, hutorn, -⟩ := startCircularRestarts { t with xc := .none }
  have hstart : step t = .next u :=
    (step_word (hcfg ▸ hv) (fetch_of_xc (by simp [hxc])) (by rw [hxc]; rfl)).trans hu
  have hanswer : step u = exec (.rspOk 0) { u with rsp := none } :=
    step_word (hucfg ▸ hcfg ▸ hv) (fetch_of_rsp huxc (hursp.trans hrsp)) rfl
  refine ⟨t, _, ht, .step hstart (.step hanswer (.refl _)), ?_⟩
  exact {
    cfg := hucfg.trans hcfg
    pix := hupix.trans hpix
    xc := huxc
    rsp := rfl
    hostCmd := hucmd.trans (hcmd'.trans hcmd)
    torn := hutorn.trans htorn
    rp := congrArg Fin.val hrp
    wave := hwave
    lowRun := by rw [Nat.zero_sub]; exact Nat.zero_le _
    trace := hutrace.trans (htrace'.trans htrace)
    pend := hupend.trans (hpend.trans hp)
    stage := (update_stage hv hs ht).congr huq hustate hucursor hrun }

/-- The state in which the `UPDATE` runs: the trace has it no more. -/
def updateTaken (s : State) : State := { s with trace := List.replicate (24 * blocks s) (.env .tick) }

/-- Settles O50: the `UPDATE` begins the stream, every carrier period carries it on, and the reset blocks at its end
last the latch minimum. -/
theorem transmittedStream : Obligations.TransmittedStream := by
  intro s hv hd hs hm hp hxc hrsp hcmd htrace
  have hfetch := (traceGoesInOrder s hxc hrsp (fun _ => hp) hcmd).1 _ _ htrace
  obtain ⟨t, u, ht, hu, hstream⟩ := update_streams (s := updateTaken s) hv hs hm hp hcmd rfl
  obtain ⟨hn, -, hr, -, hlatch, -⟩ := bounds_of_valid _ hv
  have hb := blocks_eq s
  obtain ⟨w, hw, hfin, hc⟩ := Streaming.reaches_end (s := updateTaken s) hv hd (24 * blocks s - 1) 0 u
    (by rw [show blocks (updateTaken s) = blocks s from rfl]; omega) hstream
  obtain ⟨k, hk⟩ := Reaches.step ((step_word (i := .update) hv hfetch rfl).trans ht) (hu.trans hw)
  refine ⟨k, w, hk, hfin, hc.wave.trans (cycleStream_eq s).symm, hc.torn, ?_⟩
  have hlow : 24 * blocks s - 24 * s.cfg.n ≤ w.lowRun := hc.lowRun
  calc 50000 ≤ s.cfg.resetCycles * (24 * s.cfg.carrierNs) := hlatch
    _ = 24 * s.cfg.resetCycles * s.cfg.carrierNs := by ring
    _ ≤ w.lowRun * s.cfg.carrierNs := Nat.mul_le_mul_right _ (by omega)

end Sys2Proof.Machine
end
